-- ==== Sys2Proof/Word.lean ====
section
/-!
DEFINITION. The words that travel on the links of the Ulbera 416: a byte, and the 16-byte identifiers
(key ids, composition ids, key material, check tags), each one 128-bit word with its first byte most significant.
-/
namespace Sys2Proof

/-- One byte of a link (control link, storage link, picture link, overlay link, assist caption output). -/
abbrev Byte := BitVec 8

/-- A 16-byte field: a key id, a composition id, a content key, a check key or a check tag. -/
abbrev Id := BitVec 128

end Sys2Proof
end

