-- ==== Sys2Proof/Syntax.lean ====
section
/-!
DEFINITION. The commands of the Ulbera 416, one constructor for each row of the table of operations and events.

A host request is the TAKE of a frame from the receive queue (R184), so it carries the frame's tag and payload as they stand on
the control link. The other rows are events at the part's ports (a frame, a storage record, the wake and reset lines), ticks
of its clocks (a sample period, a millisecond boundary, a booth clock second), and the completion of something in flight
(a fade, a timer), each named by what it completes.
-/
namespace Sys2Proof

/-- A gain that fades without a switch phase: an output's host fader, or the pause gain (R92). -/
inductive GainId where
  | host (output : Fin 18)
  | pause
deriving DecidableEq, Repr

/-- The commands: host requests taken from the receive queue, link and storage events, ticks, completions, and power events. -/
inductive Instr where
  /-- STATUS (R186): Host request reporting the power state, show state, position, clock, wake and link status. Frame kind 1. -/
  | status (tag : Byte) (payload : List Byte)
  /-- NOTICE_ENABLE (R172): Host request setting the enable of every notice source and clearing pending sources that it disables. Frame kind 2. -/
  | noticeEnable (tag : Byte) (payload : List Byte)
  /-- NOTICE_CLEAR (R171): Host request clearing one notice source's pending flag and withdrawing its awaiting frame. Frame kind 3. -/
  | noticeClear (tag : Byte) (payload : List Byte)
  /-- FAULT_READ (R167): Host request returning the state and fields of one fault capture record. Frame kind 4. -/
  | faultRead (tag : Byte) (payload : List Byte)
  /-- FAULT_CLEAR (R167): Host request returning one fault capture record as it stood and then freeing it. Frame kind 5. -/
  | faultClear (tag : Byte) (payload : List Byte)
  /-- CLOCK_SET (R174): Host request setting the booth clock and the clock-set flag, then handing the event to the key evaluation, the scheduled start and the wake test. Frame kind 8. -/
  | clockSet (tag : Byte) (payload : List Byte)
  /-- WAKE_AT (R175): Host request setting or removing the wake time. Frame kind 9. -/
  | wakeAt (tag : Byte) (payload : List Byte)
  /-- READY (R176): Host request entering the READY power state when the show is EMPTY or LOADED. Frame kind 10. -/
  | ready (tag : Byte) (payload : List Byte)
  /-- ACTIVE (R176): Host request returning the part from READY to ACTIVE. Frame kind 11. -/
  | active (tag : Byte) (payload : List Byte)
  /-- NIGHT (R177): Host request accepting a transition to NIGHT, which then takes effect at the end of its reply. Frame kind 12. -/
  | night (tag : Byte) (payload : List Byte)
  /-- RESTART (R180): Host request accepting a restart, which is then taken at the end of its reply. Frame kind 13. -/
  | restart (tag : Byte) (payload : List Byte)
  /-- SHOW_LOAD (R23): Host request carrying one part of a show programme into the build area and installing the programme at its last part. Frame kind 16. -/
  | showLoad (tag : Byte) (payload : List Byte)
  /-- SHOW_UNLOAD (R26): Host request discarding the held programme in LOADED. Frame kind 17. -/
  | showUnload (tag : Byte) (payload : List Byte)
  /-- SHOW_ARM (R28): Host request checking the held programme and, when every check passes, pinning its keys and starting priming. Frame kind 18. -/
  | showArm (tag : Byte) (payload : List Byte)
  /-- SHOW_START (R33): Host request re-checking the pinned keys in ARMED and starting the showing. Frame kind 19. -/
  | showStart (tag : Byte) (payload : List Byte)
  /-- SHOW_START_AT (R34): Host request scheduling a start at a booth clock second. Frame kind 20. -/
  | showStartAt (tag : Byte) (payload : List Byte)
  /-- PAUSE (R35): Host request pausing a RUNNING show and freezing the timeline. Frame kind 21. -/
  | pause (tag : Byte) (payload : List Byte)
  /-- RESUME (R36): Host request resuming a PAUSED show. Frame kind 22. -/
  | resume (tag : Byte) (payload : List Byte)
  /-- STOP (R37): Host request disarming the show in ARMING or ARMED, or entering STOPPING with outcome STOPPED. Frame kind 23. -/
  | stop (tag : Byte) (payload : List Byte)
  /-- HALT (R38): Host emergency request applying the emergency pattern and entering STOPPING as INTERRUPTED or restarting the stop fade. Frame kind 24. -/
  | halt (tag : Byte) (payload : List Byte)
  /-- SHOW_QUERY (R27): Host request reporting the show state, the build progress and the latest SHOW event. Frame kind 25. -/
  | showQuery (tag : Byte) (payload : List Byte)
  /-- CUE_EDIT_WRITE (R138): Host request writing one cue record into the cue lists that R41 names. Frame kind 26. -/
  | cueEditWrite (tag : Byte) (payload : List Byte)
  /-- CUE_EDIT_DELETE (R138): Host request deleting one cue number from the cue lists that R41 names. Frame kind 26. -/
  | cueEditDelete (tag : Byte) (payload : List Byte)
  /-- CUE_LIST (R138): Host request returning a page of the live or pending cue list. Frame kind 27. -/
  | cueList (tag : Byte) (payload : List Byte)
  /-- KEY_PUT (R48): Host request installing a key record in the lowest free place. Frame kind 32. -/
  | keyPut (tag : Byte) (payload : List Byte)
  /-- KEY_REMOVE (R50): Host request freeing the place of an unpinned key. Frame kind 33. -/
  | keyRemove (tag : Byte) (payload : List Byte)
  /-- KEY_REVOKE (R51): Host request making a PENDING or VALID key REVOKED. Frame kind 34. -/
  | keyRevoke (tag : Byte) (payload : List Byte)
  /-- KEY_GET (R52): Host request returning the non-secret fields of one key. Frame kind 35. -/
  | keyGet (tag : Byte) (payload : List Byte)
  /-- KEY_LIST (R53): Host request returning a page of the Key Table and the KEYS details. Frame kind 36. -/
  | keyList (tag : Byte) (payload : List Byte)
  /-- MAP_SET (R87): Host request replacing the channel map, either at once or at the next slot start. Frame kind 40. -/
  | mapSet (tag : Byte) (payload : List Byte)
  /-- FADE (R91): Host request starting a fade of a set of host faders. Frame kind 41. -/
  | fade (tag : Byte) (payload : List Byte)
  /-- DELAY_SET (R96): Host request replacing the lip-sync delay settings and converting them to per-output delays. Frame kind 42. -/
  | delaySet (tag : Byte) (payload : List Byte)
  /-- SOUND_QUERY (R105): Host request reporting the Sound Engine's state. Frame kind 43. -/
  | soundQuery (tag : Byte) (payload : List Byte)
  /-- METER_SET (R108): Host request replacing the meter set-up in IDLE. Frame kind 44. -/
  | meterSet (tag : Byte) (payload : List Byte)
  /-- METER_START (R109): Host request triggering a measurement with trigger source REQUEST. Frame kind 45. -/
  | meterStart (tag : Byte) (payload : List Byte)
  /-- METER_STOP (R114): Host request ending a measurement without a report. Frame kind 46. -/
  | meterStop (tag : Byte) (payload : List Byte)
  /-- METER_READ (R115): Host request returning the meter results, the METER details and the silence watch state. Frame kind 47. -/
  | meterRead (tag : Byte) (payload : List Byte)
  /-- SILENCE_SET (R116): Host request replacing the silence watch settings and zeroing the quiet counts. Frame kind 48. -/
  | silenceSet (tag : Byte) (payload : List Byte)
  /-- SUBTITLE_SET (R121): Host request setting a subtitle track's enable and lead. Frame kind 50. -/
  | subtitleSet (tag : Byte) (payload : List Byte)
  /-- SUBTITLE_QUERY (R136): Host request reporting the state of both subtitle tracks. Frame kind 51. -/
  | subtitleQuery (tag : Byte) (payload : List Byte)
  /-- LINE_CONFIG (R141): Host request setting a cue line's mode to LEVEL or PULSE. Frame kind 56. -/
  | lineConfig (tag : Byte) (payload : List Byte)
  /-- LINE (R143): Host request setting, clearing or toggling a cue line. Frame kind 57. -/
  | line (tag : Byte) (payload : List Byte)
  /-- LINE_PULSE (R143): Host request pulsing a PULSE-mode cue line. Frame kind 58. -/
  | linePulse (tag : Byte) (payload : List Byte)
  /-- PAIR_CONFIG (R144): Host request enabling or disabling an interlocked pair and setting its dead time. Frame kind 59. -/
  | pairConfig (tag : Byte) (payload : List Byte)
  /-- PAIR (R145): Host request asking an enabled pair for A, B or OFF. Frame kind 60. -/
  | pair (tag : Byte) (payload : List Byte)
  /-- INPUT_CONFIG (R148): Host request setting a booth input's edge and action. Frame kind 61. -/
  | inputConfig (tag : Byte) (payload : List Byte)
  /-- CAPTURE_READ (R148): Host request returning an input's capture record, then clearing its fresh flag and capture count. Frame kind 62. -/
  | captureRead (tag : Byte) (payload : List Byte)
  /-- EMERGENCY_CONFIG (R150): Host request replacing the emergency pattern. Frame kind 63. -/
  | emergencyConfig (tag : Byte) (payload : List Byte)
  /-- HOLD_RELEASE (R152): Host request ending the hold and bringing the pins to the configured state. Frame kind 64. -/
  | holdRelease (tag : Byte) (payload : List Byte)
  /-- LINE_QUERY (R143): Host request reporting the lines, the pairs, the hold and the inputs. Frame kind 65. -/
  | lineQuery (tag : Byte) (payload : List Byte)
  /-- LOG_READ (R162): Host request returning a page of one showing record. Frame kind 72. -/
  | logRead (tag : Byte) (payload : List Byte)
  /-- LOG_COLLECT (R163): Host request marking closed records at or before a showing number as collected. Frame kind 73. -/
  | logCollect (tag : Byte) (payload : List Byte)
  /-- LOG_STATUS (R164): Host request reporting the showing log counts and the COUNT details. Frame kind 74. -/
  | logStatus (tag : Byte) (payload : List Byte)
  /-- UNKNOWN_KIND (R184): Take of a frame whose kind is 0 or has no owner, answered UNKNOWN_KIND. -/
  | unknownKind (kind tag : Byte) (payload : List Byte)
  /-- REPLY_KIND_FRAME_DISCARD (R184): Take of a frame of kind 128 to 255, discarded without reply. -/
  | replyKindFrameDiscard (kind tag : Byte) (payload : List Byte)
  /-- FRAME_RECEIVED (R183): A control frame is received in full; its check is compared and it joins the receive queue, is answered OVERFLOW or is discarded. -/
  | frameReceived (bytes : List Byte)
  /-- LENGTH_FAULT (R183): A length field out of range ends the frame with fault LENGTH, and the receiver discards bytes. -/
  | lengthFault (bytes : List Byte)
  /-- LINK_GAP_TIMEOUT (R183): An inter-byte gap over 5 ms discards a partial frame with fault TIMEOUT, or ends DISCARDING. -/
  | linkGapTimeout (bytes : List Byte)
  /-- TRANSMIT_COMPLETE (R170): A reply or NOTICE frame finishes leaving the transmitter; the reply buffer empties or the notice is marked SENT, and the next frame is chosen. -/
  | transmitComplete
  /-- STORAGE_DATA (R65): A DATA record from the store is matched to its slot, checked for consistency, looked up, decrypted and checked for integrity. -/
  | storageData (seq : BitVec 16) (unit : List Byte)
  /-- STORAGE_ERROR (R72): An ERROR record from the store frees its slot and counts a storage failure against the owner. -/
  | storageError (seq : BitVec 16) (code : Byte)
  /-- STORAGE_RECORD_DISCARD (R187): A store record of unknown type or bad ERROR code is discarded, and SDI is ignored until the link is idle. -/
  | storageRecordDiscard (record : List Byte)
  /-- STORAGE_LINK_IDLE (R187): After 1 ms with no byte on the storage link, Intake resumes reading records. -/
  | storageLinkIdle
  /-- STORAGE_TIMEOUT (R66): A storage slot's 250 ms timeout expires, freeing the slot and counting a storage failure. -/
  | storageTimeout (slot : Fin 4)
  /-- SWEEP_VISIT (R69): The fetch sweep visits its next station and issues at most one READ into a free slot. -/
  | sweepVisit
  /-- SAMPLE_PERIOD (R6): One sample period of the sample clock: the mixer, faders, delay lines, meter and timeline each take one step. -/
  | samplePeriod
  /-- STOP_FADE_COMPLETE (R40): The stop fade's last step ends STOPPING: the record closes, keys unpin, cue lists copy and the show returns to LOADED. -/
  | stopFadeComplete
  /-- GAIN_FADE_END (R92): A host fader or pause gain fade takes its last step and ends at its target. -/
  | gainFadeEnd (gain : GainId)
  /-- SWITCH_DOWN_COMPLETE (R98): An output's switch gain reaches 0 and its phase becomes WAITING. -/
  | switchDownComplete (output : Fin 18)
  /-- SWITCH_UP_COMPLETE (R98): An output's switch gain reaches unity and its phase becomes STEADY. -/
  | switchUpComplete (output : Fin 18)
  /-- METER_WINDOW_COMPLETE (R110): A meter window's samples run out, and its peak is written as the mode states. -/
  | meterWindowComplete
  /-- ARM_TIMEOUT (R32): The arm timer expires in ARMING; Intake purges, keys unpin and the show returns to LOADED. -/
  | armTimeout
  /-- PAUSE_LIMIT_EXPIRY (R36): The pause limit timer expires in PAUSED, and the show enters STOPPING with outcome ABANDONED. -/
  | pauseLimitExpiry
  /-- BOOTH_CLOCK_SECOND (R173): The booth clock advances one second, and the event is handed to key evaluation, the scheduled start and the wake test. -/
  | boothClockSecond
  /-- MILLISECOND_BOUNDARY (R137): A Cue Unit millisecond boundary: input lines are sampled and filtered and timers count down. -/
  | millisecondBoundary (levels : BitVec 8)
  /-- PULSE_EXPIRY (R142): A line's pulse timer expires, and the line goes inactive. -/
  | pulseExpiry (line : Fin 8)
  /-- DEAD_TIMER_EXPIRY (R145): A pair's dead timer expires, driving the target line active or settling OFF. -/
  | deadTimerExpiry (pair : Fin 4)
  /-- WAKE_LINE_FALL (R179): A falling edge of WAKE_N in NIGHT causes a night wake with cause LINE. -/
  | wakeLineFall
  /-- RESET_LINE_ASSERT (R180): Assertion of RESET_N causes a restart, or a night wake when in NIGHT. -/
  | resetLineAssert
  /-- POWER_ON (R181): Supplies are applied; a restart that also clears the retained domain. -/
  | powerOn
deriving DecidableEq, Repr

end Sys2Proof
end

