-- ==== Sys2Proof/Decode.lean ====
section
/-!
DEFINITION. The command that a word spells by the bits of the table. The table gives bits to no row: the commands of the part are
frames, records, edges and ticks, not words (log entry 3).
-/
namespace Sys2Proof

/-- The command a table word of `nbits` bits spells: none, for every word. -/
def decodeTableWord (_nbits _w : Nat) : Option Instr := none

end Sys2Proof
end

