-- ==== Sys2Proof/Config.lean ====
section
/-!
DEFINITION. What the manual fixes for every part (the key parameters of the Introduction), and what it leaves open:
the cipher, the keyed check and the order in which events that fall together are taken, each an opaque constant of which
nothing can be proved.
-/
namespace Sys2Proof.Config

/-- Sound outputs, 0 to 15 main, 16 HI, 17 VN (Introduction, key parameters). -/
abbrev outputCount : Nat := 18
/-- Data lines of the serial audio output, ADAT[0] to ADAT[8] (R85). -/
abbrev dataLines : Nat := 9
/-- Key Table places (R43). -/
abbrev keyPlaces : Nat := 32
/-- Showing log capacity (R154). -/
abbrev logCapacity : Nat := 48
/-- Values a delay line keeps, and the largest effective delay (R96, R97). -/
abbrev delayCapacity : Nat := 24000
/-- Channel map routes (R86). -/
abbrev routeCapacity : Nat := 48
/-- Picture staging queue capacity (R67). -/
abbrev pictureCapacity : Nat := 32
/-- Main and assist sound staging queue capacity (R67). -/
abbrev soundCapacity : Nat := 64
/-- Units a present queue holds when it is primed (R31). -/
abbrev primeDepth : Nat := 16
/-- Storage slots (R64). -/
abbrev slotCount : Nat := 4
/-- Subtitle requests the subtitle list holds (R70). -/
abbrev subtitleListCapacity : Nat := 8
/-- Events a reel table holds (R127). -/
abbrev reelTableCapacity : Nat := 512
/-- Control link receive queue, and overflow list (R184). -/
abbrev receiveCapacity : Nat := 4
/-- Arm timeout in milliseconds (R27). -/
abbrev armTimeoutMs : Nat := 10000
/-- Storage timeout in milliseconds (R64). -/
abbrev storageTimeoutMs : Nat := 250
/-- Largest fade duration in milliseconds (R91). -/
abbrev fadeLimitMs : Nat := 60000
/-- Unity gain, 16384/16384 (Introduction, numbers and units). -/
abbrev unity : Nat := 16384
/-- The largest booth clock value, showing number and window end: 2^32 - 1. -/
abbrev maxWord32 : Nat := 4294967295
/-- The largest value of a 16-bit count, at which it saturates (Introduction). -/
abbrev maxCount16 : Nat := 65535
/-- The largest value of an 8-bit count, at which it saturates. -/
abbrev maxCount8 : Nat := 255

/-- Byte `i` of the key stream that the 128-bit block cipher in counter mode makes from a content key and a counter start
(R63). DESIGN CHOICE: the manual gives the cipher by its outcomes only, so it is a free value (log entry 6); safe. -/
opaque keyStream : (contentKey : Id) → (counterStart : BitVec 64) → (i : Nat) → Byte

/-- The keyed 16-byte check over a plaintext (R63). DESIGN CHOICE: the manual gives the check by its outcomes only, so it is a
free value (log entry 6); safe. -/
opaque keyedCheck : (checkKey : Id) → (plaintext : List Byte) → Id

/-- The order in which two events that fall together are taken, for the `n`-th time the model has to choose (R6, R12, R117,
R140, R146, R173). DESIGN CHOICE: the manual allows either order, so the order is a free value (log entry 5); safe. -/
opaque freeOrder : (n : Nat) → Bool

end Sys2Proof.Config
end

