-- ==== Sys2Proof/Machine/State.lean ====
section
/-!
DEFINITION. Everything the manual has the Ulbera 416 hold, block by block, as plain data, and the values every block takes at a
reset. `State.reset` is the part right after power-on (R181).
-/
namespace Sys2Proof.Machine

/-! ### Names of R185 -/

/-- Power state (R176). -/
inductive PowerState where | active | ready | night
deriving DecidableEq, Repr

/-- Transition pending (R176). -/
inductive Transition where | none | night | restart
deriving DecidableEq, Repr

/-- Wake cause (R179). -/
inductive WakeCause where | line | time | reset
deriving DecidableEq, Repr

/-- Show state (section 2.3). -/
inductive ShowState where | empty | loaded | arming | armed | running | paused | stopping
deriving DecidableEq, Repr

/-- Timeline mode (R1, R2). -/
inductive Mode where | still | advancing | frozen
deriving DecidableEq, Repr

/-- Sample rate of the sound sample clock (R1, R4). -/
inductive SampleRate where | hz48000 | hz96000
deriving DecidableEq, Repr

/-- Ending outcome of a showing (R27, R153); a record without one is OPEN. -/
inductive ShowOutcome where | complete | stopped | abandoned | interrupted
deriving DecidableEq, Repr

/-- SHOW event codes (R27). -/
inductive ShowCode where | armed | armTimeout | disarmed | started | startFailed | paused | resumed | stopping | ended
deriving DecidableEq, Repr

/-- Key state (R43, R45). -/
inductive KeyState where | pending | valid | expired | spent | revoked
deriving DecidableEq, Repr

/-- Cause of a KEYS report (R47). -/
inductive KeysCause where | clock | charge
deriving DecidableEq, Repr

/-- Track kind of an essence unit, and element of a key's scope (R43, R61). -/
inductive TrackKind where | picture | sound | subtitle
deriving DecidableEq, Repr

/-- Cause of a LOST outcome (R67); `payload` is a malformed subtitle payload (R124). -/
inductive LossCause where | key | integrity | storage | format | payload
deriving DecidableEq, Repr

/-- Subtitle track (R119). -/
inductive Track where | main | assist
deriving DecidableEq, Repr

/-- The three staging queues (R67). -/
inductive QueueId where | pq | sq0 | sq1
deriving DecidableEq, Repr

/-- Stations of the fetch sweep (R69). -/
inductive Station where | pq | sq0 | sq1 | subtitles
deriving DecidableEq, Repr

/-- Intake mode (R80). -/
inductive IntakeMode where | idle | fetching
deriving DecidableEq, Repr

/-- Switch gain phase (R98). -/
inductive SwitchPhase where | steady | down | waiting | up
deriving DecidableEq, Repr

/-- Meter point (R106). -/
inductive MeterPoint where | source | output
deriving DecidableEq, Repr

/-- Meter mode (R106). -/
inductive MeterMode where | single | watch | sweep | cycle
deriving DecidableEq, Repr

/-- Meter state (R106). -/
inductive MeterState where | off | idle | measuring
deriving DecidableEq, Repr

/-- Trigger source of a measurement (R109). -/
inductive Trigger where | request | cue | input
deriving DecidableEq, Repr

/-- Last change of the silence watch (R116). -/
inductive SilenceChange where | raised | cleared
deriving DecidableEq, Repr

/-- Cue line mode (R137). -/
inductive LineMode where | level | pulse | pair
deriving DecidableEq, Repr

/-- State of an interlocked pair (R145). -/
inductive PairState where | off | aOn | bOn | deadA | deadB
deriving DecidableEq, Repr

/-- What a pair is asked for (R143). -/
inductive PairTarget where | a | b | off
deriving DecidableEq, Repr

/-- LINE operation (R143). -/
inductive LineOp where | set | clear | toggle
deriving DecidableEq, Repr

/-- Anchor of a position (section 1.4). -/
inductive Anchor where | start | finish
deriving DecidableEq, Repr

/-- Edge of a booth input setting, or of an accepted change (R147, R148). -/
inductive Edge where | rise | fall | both
deriving DecidableEq, Repr

/-- Action of a booth input (R148). -/
inductive InputAction where | none | capture | start | pause | resume | stop | emergency | meter
deriving DecidableEq, Repr

/-- Result of an input action (R148). -/
inductive InputResult where | performed | ignored | refused
deriving DecidableEq, Repr

/-- The four fault capture records (R165). -/
inductive CaptureUnit where | intake | sound | subtitle | link
deriving DecidableEq, Repr

/-- Fault kinds (R166). -/
inductive FaultKind where | lost | late | gap | delayClamped | region | beyondReel | overflow | frame
deriving DecidableEq, Repr

/-- Fault causes (R166, R185). -/
inductive FaultCause where
  | key | integrity | storage | format | payload | late | picture | mainSound | assistSound | lost | delaySet | start | region
  | beyondReel | overflow | timeout | check | length
deriving DecidableEq, Repr

/-- The thirteen notice sources (R168). -/
inductive Source where
  | show | count | keys | log | intakeFault | soundFault | subtitleFault | linkFault | meter | silence | input | cue | wake
deriving DecidableEq, Repr

/-- Frame mark of a pending source (R168). -/
inductive Mark where | awaiting | sent
deriving DecidableEq, Repr

/-- Control link rate (R186). -/
inductive LineRate where | baud921600 | baud3000000
deriving DecidableEq, Repr

/-! ### Timeline Unit (R1) -/

/-- The position record of R1. -/
structure Timeline where
  mode : Mode
  rate : SampleRate
  entry : Nat
  reel : Nat
  frame : Nat
  phase : Nat
  samplesPerFrame : Nat
  total : Nat
  countPoint : Option Nat
deriving DecidableEq, Repr

/-- Values of the position record after every reset (R3). -/
def Timeline.reset : Timeline :=
  { mode := .still, rate := .hz48000, entry := 0, reel := 0, frame := 0, phase := 0, samplesPerFrame := 0, total := 0,
    countPoint := none }

/-! ### Cue records (R138), carried by a build and held by the Cue Unit -/

/-- A cue action with its parameters (R140). -/
inductive CueAction where
  | line (line : Nat) (op : LineOp)
  | pulse (line width : Nat)
  | pair (pair : Nat) (target : PairTarget)
  | fade (outputs : BitVec 18) (target duration : Nat)
  | meter
  | subtitle (track : Track) (on : Bool)
  | notice
deriving DecidableEq, Repr

/-- A cue record (R138). -/
structure CueRecord where
  number : Nat
  entry : Nat
  anchor : Anchor
  offset : Nat
  action : CueAction
  enabled : Bool
  writtenMode : Option LineMode
deriving DecidableEq, Repr

/-! ### Show Controller (chapter 2) -/

/-- A reel record (R22). -/
structure Reel where
  duration : Nat
  picture : Nat
  mainSound : Nat
  assistSound : Option Nat
  mainSubtitle : Option Nat
  assistSubtitle : Option Nat
deriving DecidableEq, Repr

/-- An entry record of a programme (R22). -/
structure Entry where
  composition : Id
  editRate : Nat
  rate : SampleRate
  mainChannels : Nat
  assistChannels : Nat
  reels : List Reel
  keys : List Id
  percentage : Option Nat
deriving DecidableEq, Repr

/-- A show programme (R21); its entry count is the number of its entries. -/
structure Programme where
  id : Nat
  pauseLimit : Nat
  entries : List Entry
deriving DecidableEq, Repr

/-- A build in progress (R23). -/
structure Build where
  id : Nat
  entryCount : Nat
  pauseLimit : Nat
  cueCount : Option Nat
  entries : List Entry
  cues : List CueRecord
  next : Nat
deriving DecidableEq, Repr

/-- The SHOW event summary (R27). -/
structure ShowEvent where
  code : ShowCode
  state : ShowState
  outcome : Option ShowOutcome
  programme : Nat
deriving DecidableEq, Repr

/-- The Show Controller (R21, R23, R27, R30). The two timers hold the milliseconds left, `none` when stopped. -/
structure ShowControl where
  state : ShowState
  programme : Option Programme
  build : Option Build
  outcome : Option ShowOutcome
  pins : List Id
  armTimer : Option Nat
  schedule : Option Nat
  pauseTimer : Option Nat
  pausedMs : Nat
  event : Option ShowEvent
deriving DecidableEq, Repr

/-- Reset values of the Show Controller (R21, R23, R27, R44). -/
def ShowControl.reset : ShowControl :=
  { state := .empty, programme := none, build := none, outcome := none, pins := [], armTimer := none, schedule := none,
    pauseTimer := none, pausedMs := 0, event := none }

/-! ### Key Table (chapter 3) -/

/-- A key record (R43). The scope is three flags, at least one set. -/
structure KeyRecord where
  id : Id
  composition : Id
  scopePicture : Bool
  scopeSound : Bool
  scopeSubtitle : Bool
  contentKey : Id
  checkKey : Id
  windowStart : Nat
  windowEnd : Nat
  allowance : Option Nat
  charged : Nat
  state : KeyState
  pinned : Bool
deriving DecidableEq, Repr

/-- The KEYS details (R47); `last` holds the last index, that record's new state and the cause. -/
structure KeysDetails where
  changed : BitVec 32
  count : Nat
  last : Option (Nat × KeyState × KeysCause)
deriving DecidableEq, Repr

/-- KEYS details after every reset (R44). -/
def KeysDetails.reset : KeysDetails := { changed := 0, count := 0, last := none }

/-- The Key Table: 32 places (R43) and the KEYS details (R47). -/
structure KeyTable where
  places : List (Option KeyRecord)
  details : KeysDetails
deriving DecidableEq, Repr

/-- The Key Table after a power-on (R44). -/
def KeyTable.reset : KeyTable := { places := List.replicate Config.keyPlaces none, details := .reset }

/-! ### Intake Engine (chapter 4) -/

/-- A position: entry index, reel index, unit number (R61). -/
structure Pos where
  entry : Nat
  reel : Nat
  unit : Nat
deriving DecidableEq, Repr

/-- Status of a queue entry, with the payload of a READY one and the cause of a LOST one (R67). -/
inductive QueueStatus where
  | reserved
  | ready (data : List Byte)
  | lost (cause : LossCause)
deriving DecidableEq, Repr

/-- A staging queue entry (R67); `slot` is the storage slot of its outstanding request. -/
structure QueueEntry where
  pos : Pos
  status : QueueStatus
  failures : Nat
  reread : Bool
  slot : Option Nat
deriving DecidableEq, Repr

/-- Status of a subtitle request (R70), with what a HELD one is to deliver. -/
inductive SubtitleStatus where
  | awaiting
  | inFlight (slot : Nat)
  | opened (payload : List Byte)
  | lost (cause : LossCause)
deriving DecidableEq, Repr

/-- A subtitle request (R70). -/
structure SubtitleRequest where
  track : Track
  entry : Nat
  reel : Nat
  trackId : Nat
  status : SubtitleStatus
  failures : Nat
  reread : Bool
deriving DecidableEq, Repr

/-- Owner of a storage request (R64). -/
inductive Owner where
  | queue (queue : QueueId) (pos : Pos)
  | subtitle (track : Track) (entry reel : Nat)
deriving DecidableEq, Repr

/-- An outstanding storage request (R64); `timer` is the milliseconds left of its timeout. -/
structure StorageRequest where
  seq : BitVec 16
  owner : Owner
  trackId : Nat
  unit : Nat
  timer : Nat
deriving DecidableEq, Repr

/-- The Intake Engine (R64, R67 to R70, R80, R187). A cursor of `none` is ENDED. -/
structure Intake where
  mode : IntakeMode
  pq : List QueueEntry
  sq0 : List QueueEntry
  sq1 : List QueueEntry
  pqCursor : Option Pos
  sq0Cursor : Option Pos
  sq1Cursor : Option Pos
  requests : List SubtitleRequest
  slots : List (Option StorageRequest)
  seq : BitVec 16
  station : Station
  ignoring : Bool
deriving DecidableEq, Repr

/-- Reset values of the Intake Engine (R64, R67 to R70, R80). -/
def Intake.reset : Intake :=
  { mode := .idle, pq := [], sq0 := [], sq1 := [], pqCursor := none, sq0Cursor := none, sq1Cursor := none, requests := [],
    slots := List.replicate Config.slotCount none, seq := 0, station := .pq, ignoring := false }

/-! ### Picture Output (section 4.8) -/

/-- The Picture Output (R81). -/
structure Picture where
  showing : Bool
  last : Option Pos
deriving DecidableEq, Repr

/-- Reset values of the Picture Output (R81). -/
def Picture.reset : Picture := { showing := false, last := none }

/-! ### Sound Engine (chapter 5) -/

/-- A route of the channel map (R86). -/
structure Route where
  source : Nat
  output : Nat
  gain : Nat
deriving DecidableEq, Repr

/-- A fade in flight: its start value, target, length N and step k (R92). -/
structure Ramp where
  start : Nat
  target : Nat
  length : Nat
  step : Nat
deriving DecidableEq, Repr

/-- A gain that can fade: current value, target and fade in flight (R84, R92). -/
structure Gain where
  cur : Nat
  target : Nat
  ramp : Option Ramp
deriving DecidableEq, Repr

/-- A gain at rest. -/
def Gain.rest (g : Nat) : Gain := { cur := g, target := g, ramp := none }

/-- What the Sound Engine holds for one output (R84). The delay line lists the most recent fader result first and leaves out the
zeros at its old end, so that equal lines are equal data; `out` is the output sample on the serial audio output (R97). -/
structure Output where
  fader : Gain
  trim : Nat
  delay : Nat
  switch : Gain
  phase : SwitchPhase
  pendingDelay : Option Nat
  line : List Int
  out : Int
deriving DecidableEq, Repr

/-- Reset values of one output (R84). -/
def Output.reset : Output :=
  { fader := .rest Config.unity, trim := 0, delay := 0, switch := .rest Config.unity, phase := .steady, pendingDelay := none,
    line := [], out := 0 }

/-- What the Sound Engine holds for one track: the current sound unit and the concealment state (R84). -/
structure SoundTrack where
  unit : Option (List Byte)
  gap : Bool
  fadeOutDue : Bool
  previousGap : Bool
deriving DecidableEq, Repr

/-- Reset values of one track (R84). -/
def SoundTrack.reset : SoundTrack := { unit := none, gap := false, fadeOutDue := false, previousGap := false }

/-- The Sound Engine (R84). -/
structure Sound where
  map : List Route
  pendingMap : Option (List Route)
  pause : Gain
  globalDelay : Nat
  outputs : List Output
  main : SoundTrack
  assist : SoundTrack
  mainChannels : Nat
  assistChannels : Nat
  running : Bool
deriving DecidableEq, Repr

/-- The default channel map: source `s` to output `s` at unity (R86). -/
def defaultMap : List Route :=
  (List.range Config.outputCount).map fun s => { source := s, output := s, gain := Config.unity }

/-- Reset values of the Sound Engine (R84). -/
def Sound.reset : Sound :=
  { map := defaultMap, pendingMap := none, pause := .rest Config.unity, globalDelay := 0,
    outputs := List.replicate Config.outputCount Output.reset, main := .reset, assist := .reset, mainChannels := 0,
    assistChannels := 0, running := true }

/-! ### Level Monitor (chapter 6) -/

/-- A channel result or watch slot (R106). -/
structure MeterResult where
  peak : Nat
  pass : Nat
  valid : Bool
deriving DecidableEq, Repr

/-- A cleared result (R106, R109). -/
def MeterResult.reset : MeterResult := { peak := 0, pass := 0, valid := false }

/-- The METER details (R113). -/
structure MeterDetails where
  mode : MeterMode
  point : MeterPoint
  pass : Nat
  peak : Nat
  channel : Nat
  trigger : Trigger
deriving DecidableEq, Repr

/-- The SILENCE details (R116); `last` holds the last output changed, the change and the entry index of that change. -/
structure SilenceDetails where
  raised : BitVec 18
  last : Option (Nat × SilenceChange × Nat)
  count : Nat
deriving DecidableEq, Repr

/-- The Level Monitor: set-up, meter state, results, METER details (R106) and silence watch (R116). -/
structure Meter where
  point : MeterPoint
  mode : MeterMode
  base : Nat
  group : Nat
  windowMs : Nat
  state : MeterState
  trigger : Option Trigger
  length : Nat
  channel : Nat
  left : Nat
  peak : Nat
  windows : Nat
  pass : Nat
  results : List MeterResult
  slots : List MeterResult
  details : Option MeterDetails
  watched : BitVec 18
  threshold : Nat
  passCount : Nat
  quiet : List Nat
  alarms : BitVec 18
  silence : SilenceDetails
deriving DecidableEq, Repr

/-- Reset values of the Level Monitor and the silence watch (R106, R116). -/
def Meter.reset : Meter :=
  { point := .output, mode := .single, base := 0, group := 2, windowMs := 100, state := .idle, trigger := none, length := 0,
    channel := 0, left := 0, peak := 0, windows := 0, pass := 0,
    results := List.replicate Config.outputCount MeterResult.reset, slots := List.replicate 8 MeterResult.reset,
    details := none, watched := 0, threshold := 0, passCount := 3, quiet := List.replicate Config.outputCount 0, alarms := 0,
    silence := { raised := 0, last := none, count := 0 } }

/-! ### Subtitle Engine (chapter 7) -/

/-- An event of a reel table, with entry-relative frames (R127). -/
structure SubtitleEvent where
  number : Nat
  inFrame : Nat
  outFrame : Nat
  fadeIn : Nat
  fadeOut : Nat
  region : Nat
  style : Nat
  text : List Byte
  sent : Bool
deriving DecidableEq, Repr

/-- A reel table (R127); `lost` is status LOST. -/
structure ReelTable where
  entry : Nat
  reel : Nat
  lost : Bool
  events : List SubtitleEvent
  defects : Nat
deriving DecidableEq, Repr

/-- The occupant of a region (R119). -/
structure Occupant where
  entry : Nat
  number : Nat
  inFrame : Nat
  outFrame : Nat
deriving DecidableEq, Repr

/-- What the Subtitle Engine holds for one track (R119). -/
structure SubtitleTrack where
  enabled : Bool
  lead : Nat
  current : Option ReelTable
  next : Option ReelTable
  markerEntry : Nat
  markerReel : Nat
  regions : List (Option Occupant)
deriving DecidableEq, Repr

/-- Reset values of a subtitle track with the given number of regions (R119). -/
def SubtitleTrack.reset (regions : Nat) : SubtitleTrack :=
  { enabled := true, lead := 2, current := none, next := none, markerEntry := 0, markerReel := 0,
    regions := List.replicate regions none }

/-- The Subtitle Engine: MAIN with regions 0 to 3, ASSIST with region 0 (R119). -/
structure Subtitles where
  main : SubtitleTrack
  assist : SubtitleTrack
deriving DecidableEq, Repr

/-- Reset values of the Subtitle Engine (R119). -/
def Subtitles.reset : Subtitles := { main := .reset 4, assist := .reset 1 }

/-! ### Cue Unit (chapter 8) -/

/-- One cue output line (R137): mode, configured level, milliseconds left of its pulse, pin level and latched level. -/
structure CueLine where
  mode : LineMode
  level : Bool
  pulse : Option Nat
  pin : Bool
  latched : Bool
deriving DecidableEq, Repr

/-- A pair record (R137, R145); `timer` is the milliseconds left of a running dead timer. -/
structure Pair where
  enabled : Bool
  deadTime : Nat
  state : PairState
  timer : Option Nat
deriving DecidableEq, Repr

/-- A booth input's setting and filter (R137, R147); an accepted level of `none` is UNKNOWN, `some true` is HIGH. -/
structure BoothInput where
  edge : Edge
  action : InputAction
  accepted : Option Bool
  run : Nat
  last : Option Bool
deriving DecidableEq, Repr

/-- A filled capture record (R148); `place` is the entry index and frame of an open showing. -/
structure CaptureRecord where
  edge : Edge
  place : Option (Nat × Nat)
  clock : Nat
  fresh : Bool
  count : Nat
deriving DecidableEq, Repr

/-- The CUE details (R140). -/
structure CueDetails where
  number : Nat
  entry : Nat
  frame : Nat
  count : Nat
deriving DecidableEq, Repr

/-- The INPUT details (R148). -/
structure InputDetails where
  input : Nat
  edge : Edge
  action : InputAction
  result : InputResult
  count : Nat
deriving DecidableEq, Repr

/-- The Cue Unit (R137). `msTaken` counts the sample periods of the millisecond under way and `msLength` is the count at which
it completes. -/
structure CueUnit where
  live : List CueRecord
  waiting : List CueRecord
  skipCount : Nat
  skipLast : Option Nat
  lines : List CueLine
  pairs : List Pair
  mask : BitVec 8
  pattern : BitVec 8
  hold : Bool
  inputs : List BoothInput
  captures : List (Option CaptureRecord)
  details : Option CueDetails
  inputDetails : Option InputDetails
  msTaken : Nat
  msLength : Nat
deriving DecidableEq, Repr

/-- A cue line after a power-on (R137). -/
def CueLine.reset : CueLine := { mode := .level, level := false, pulse := none, pin := false, latched := false }

/-- A pair record after every reset (R137). -/
def Pair.reset : Pair := { enabled := false, deadTime := 0, state := .off, timer := none }

/-- A booth input after every reset (R137). -/
def BoothInput.reset : BoothInput := { edge := .rise, action := .none, accepted := none, run := 0, last := none }

/-- The Cue Unit after a power-on (R137). -/
def CueUnit.reset : CueUnit :=
  { live := [], waiting := [], skipCount := 0, skipLast := none, lines := List.replicate 8 CueLine.reset,
    pairs := List.replicate 4 Pair.reset, mask := 0, pattern := 0, hold := false, inputs := List.replicate 8 BoothInput.reset,
    captures := List.replicate 8 none, details := none, inputDetails := none, msTaken := 0, msLength := 48 }

/-! ### Accounting Unit (chapter 9) -/

/-- An entry record of a showing record (R153). -/
structure EntryRecord where
  composition : Id
  framesPlayed : Option Nat
  countPoint : Option Nat
  charged : Bool
  pictureDefects : Nat
  soundDefects : Nat
  subtitleDefects : Nat
  silent : BitVec 18
deriving DecidableEq, Repr

/-- A showing record (R153); an outcome of `none` is OPEN. -/
structure ShowingRecord where
  number : Nat
  programme : Nat
  startClock : Nat
  endClock : Option Nat
  outcome : Option ShowOutcome
  collected : Bool
  entries : List EntryRecord
deriving DecidableEq, Repr

/-- The COUNT details (R158). -/
structure CountDetails where
  number : Nat
  entry : Nat
  entriesCharged : Nat
  keysCharged : Nat
  count : Nat
deriving DecidableEq, Repr

/-- The LOG details (R161). -/
structure LogDetails where
  records : Nat
  uncollected : Nat
  oldest : Nat
  newest : Nat
deriving DecidableEq, Repr

/-- The Accounting Unit (R153, R154, R158, R161): the showing log, oldest record first, the showing number counter, and the
COUNT and LOG details. -/
structure Accounting where
  log : List ShowingRecord
  counter : Nat
  count : Option CountDetails
  logDetails : Option LogDetails
deriving DecidableEq, Repr

/-- The Accounting Unit after a power-on (R154). -/
def Accounting.reset : Accounting := { log := [], counter := 0, count := none, logDetails := none }

/-! ### Fault capture and notices (chapter 10) -/

/-- A HELD fault capture record (R165); `place` is the entry index and frame, absent outside a showing. -/
structure FaultRecord where
  kind : FaultKind
  cause : FaultCause
  place : Option (Nat × Nat)
  clock : Nat
  detail : List Byte
  repeated : Bool
deriving DecidableEq, Repr

/-- The four fault capture records, `none` when FREE (R165). -/
structure Captures where
  intake : Option FaultRecord
  sound : Option FaultRecord
  subtitle : Option FaultRecord
  link : Option FaultRecord
deriving DecidableEq, Repr

/-- All four records FREE (R165). -/
def Captures.reset : Captures := { intake := none, sound := none, subtitle := none, link := none }

/-- An entry of the pending order (R168). The summary is absent only within the event that makes the source pending: it is
composed at the end of that event (R169). -/
structure PendingSource where
  source : Source
  mark : Mark
  summary : Option (List Byte)
deriving DecidableEq, Repr

/-- The Notice Unit (R168): the enables, bit n for source n, and the pending order, oldest first. A source's pending flag is set
exactly when it is in the order. -/
structure Notices where
  enables : BitVec 13
  order : List PendingSource
deriving DecidableEq, Repr

/-- Every source enabled, none pending (R168). -/
def Notices.reset : Notices := { enables := BitVec.allOnes 13, order := [] }

/-! ### Power Controller (chapter 11) -/

/-- The Power Controller (R173, R176, R179); `wake` is the wake details: the cause and the booth clock at the wake. -/
structure Power where
  state : PowerState
  transition : Transition
  clock : Nat
  clockSet : Bool
  wakeTime : Option Nat
  woke : Bool
  wake : Option (WakeCause × Nat)
deriving DecidableEq, Repr

/-- The Power Controller after a power-on (R173, R176, R181). -/
def Power.reset : Power :=
  { state := .active, transition := .none, clock := 0, clockSet := false, wakeTime := none, woke := false, wake := none }

/-! ### Control Link Interface (chapter 12) -/

/-- A control frame: kind, tag and payload (section 12.5); the length and the check are those of its bytes. -/
structure Frame where
  kind : Byte
  tag : Byte
  payload : List Byte
deriving DecidableEq, Repr

/-- The receiver (R183); RECEIVING holds the bytes of the frame in progress. -/
inductive Receiver where
  | awaiting
  | receiving (bytes : List Byte)
  | discarding
deriving DecidableEq, Repr

/-- What the frame in the transmitter is: the buffered reply, the first OVERFLOW reply, the notice of a pending source, or a
notice whose source has left the pending order since. -/
inductive Transmitting where
  | reply
  | overflow
  | notice (source : Source)
  | withdrawn
deriving DecidableEq, Repr

/-- The Control Link Interface (R183, R184) with the transmitter of R170. `ahead` is how many replies of the overflow list became
ready before the buffered reply. `strap` is the level at the LRATE pin, `rate` the line rate read from it at the last restart. -/
structure Link where
  receiver : Receiver
  queue : List Frame
  reply : Option Frame
  overflow : List Frame
  ahead : Nat
  transmitter : Option (Transmitting × Frame)
  rate : LineRate
  strap : LineRate
deriving DecidableEq, Repr

/-- The Control Link Interface after a reset that reads the given strap (R180, R183, R184). -/
def Link.reset (strap : LineRate) : Link :=
  { receiver := .awaiting, queue := [], reply := none, overflow := [], ahead := 0, transmitter := none, rate := strap,
    strap := strap }

/-! ### The output ports -/

/-- A record of the picture link (section 4.8). -/
inductive PictureRecord where
  | start (editRate : Nat)
  | rate (editRate : Nat)
  | picture (pos : Pos) (payload : List Byte)
  | again (entry frame : Nat)
  | finish
deriving DecidableEq, Repr

/-- A record of the overlay link or the assist caption output (R120). -/
inductive SubtitleRecord where
  | present (entry : Nat) (event : SubtitleEvent)
  | cut (entry region frame : Nat)
  | clearAll
deriving DecidableEq, Repr

/-- A READ record of the storage link (R64). -/
structure ReadRecord where
  seq : BitVec 16
  trackId : Nat
  unit : Nat
deriving DecidableEq, Repr

/-- What has left the part on each link, oldest first: the MODEL's record of the output ports, not a memory of the part's. -/
structure Ports where
  control : List Frame
  storage : List ReadRecord
  picture : List PictureRecord
  overlay : List SubtitleRecord
  assist : List SubtitleRecord
deriving DecidableEq, Repr

/-- The ports right after a power-on: CLEAR ALL has gone out on both subtitle outputs (R133). -/
def Ports.reset : Ports := { control := [], storage := [], picture := [], overlay := [.clearAll], assist := [.clearAll] }

/-! ### The machine -/

/-- The Ulbera 416: its thirteen blocks, its output ports, the queue of the commands that are waiting, and the model's own count
of the order choices it has made (`freeCount`, log entry 5). -/
structure State where
  pending : List Instr
  tl : Timeline
  ctl : ShowControl
  keys : KeyTable
  intake : Intake
  pic : Picture
  snd : Sound
  meter : Meter
  subs : Subtitles
  cue : CueUnit
  acct : Accounting
  caps : Captures
  notice : Notices
  pwr : Power
  link : Link
  ports : Ports
  freeCount : Nat
deriving DecidableEq, Repr

/-- The reasons a command could stop the part with a fault. There are none: the manual gives every command of the table an effect
in every state, and a playout fault does not stop a showing (chapter 10). -/
inductive Fault where
deriving DecidableEq, Repr

/-- The reasons the model could refuse a command. -/
inductive Refusal where
  /-- The command has no meaning in the model yet. Raised by `exec` alone, for an arm not modelled; safe. -/
  | notModelled (mnemonic : String)
deriving DecidableEq, Repr

/-- The part right after a power-on (R181), with the LRATE strap low (log entry 7) and no command waiting. -/
def State.reset : State :=
  { pending := [], tl := .reset, ctl := .reset, keys := .reset, intake := .reset, pic := .reset, snd := .reset, meter := .reset,
    subs := .reset, cue := .reset, acct := .reset, caps := .reset, notice := .reset, pwr := .reset,
    link := .reset .baud921600, ports := .reset, freeCount := 0 }

end Sys2Proof.Machine
end

