-- ==== Sys2Proof/Machine/Ops.lean ====
section
/-!
DEFINITION. The operations every block is written over: bytes and CRC of the links, saturating and rounding arithmetic, lists
addressed by index, the codes of R185, and one setter per block of the state.
-/
namespace Sys2Proof.Machine

/-! ### Setters, one per block -/

/-- Replace the Timeline's position record. -/
def State.setTl (s : State) (b : Timeline) : State := { s with tl := b }
/-- Replace the Show Controller's state. -/
def State.setCtl (s : State) (b : ShowControl) : State := { s with ctl := b }
/-- Replace the Key Table. -/
def State.setKeys (s : State) (b : KeyTable) : State := { s with keys := b }
/-- Replace the Intake Engine's state. -/
def State.setIntake (s : State) (b : Intake) : State := { s with intake := b }
/-- Replace the Picture Output's state. -/
def State.setPic (s : State) (b : Picture) : State := { s with pic := b }
/-- Replace the Sound Engine's state. -/
def State.setSnd (s : State) (b : Sound) : State := { s with snd := b }
/-- Replace the Level Monitor's state. -/
def State.setMeter (s : State) (b : Meter) : State := { s with meter := b }
/-- Replace the Subtitle Engine's state. -/
def State.setSubs (s : State) (b : Subtitles) : State := { s with subs := b }
/-- Replace the Cue Unit's state. -/
def State.setCue (s : State) (b : CueUnit) : State := { s with cue := b }
/-- Replace the Accounting Unit's state. -/
def State.setAcct (s : State) (b : Accounting) : State := { s with acct := b }
/-- Replace the four fault capture records. -/
def State.setCaps (s : State) (b : Captures) : State := { s with caps := b }
/-- Replace the Notice Unit's state. -/
def State.setNotice (s : State) (b : Notices) : State := { s with notice := b }
/-- Replace the Power Controller's state. -/
def State.setPwr (s : State) (b : Power) : State := { s with pwr := b }
/-- Replace the Control Link Interface's state. -/
def State.setLink (s : State) (b : Link) : State := { s with link := b }
/-- Replace the record of the output ports. -/
def State.setPorts (s : State) (b : Ports) : State := { s with ports := b }
/-- Replace the model's count of order choices. -/
def State.setFree (s : State) (n : Nat) : State := { s with freeCount := n }

/-! ### Lists addressed by index -/

/-- Change element `i` of a list; a list without that element is unchanged. -/
def updateAt {α : Type} (f : α → α) : Nat → List α → List α
  | _, [] => []
  | 0, a :: l => f a :: l
  | n + 1, a :: l => a :: updateAt f n l

/-- The index of the first element that satisfies `p`. -/
def indexWhere {α : Type} (p : α → Bool) : List α → Option Nat
  | [] => none
  | a :: l => if p a then some 0 else (indexWhere p l).map (· + 1)

/-- The list with its first element that satisfies `p` removed. -/
def removeFirst {α : Type} (p : α → Bool) : List α → List α
  | [] => []
  | a :: l => if p a then l else a :: removeFirst p l

/-- The elements of a list with their indexes. -/
def indexed {α : Type} (l : List α) : List (Nat × α) := (List.range l.length).zip l

/-- The list with the first of each value kept, in order. -/
def distinct {α : Type} [DecidableEq α] (l : List α) : List α :=
  (l.foldl (fun acc a => if a ∈ acc then acc else a :: acc) []).reverse

/-! ### Bytes of the links (section 12.5) -/

/-- The low `k` bytes of `n`, most significant first. -/
def beBytes : (k n : Nat) → List Byte
  | 0, _ => []
  | k + 1, n => BitVec.ofNat 8 (n / 256 ^ k) :: beBytes k n

/-- The unsigned value of a big-endian field. -/
def beNat (bs : List Byte) : Nat := bs.foldl (fun n b => n * 256 + b.toNat) 0

/-- The field of `len` bytes at offset `off`, as an unsigned value. -/
def field (bs : List Byte) (off len : Nat) : Nat := beNat ((bs.drop off).take len)

/-- The 16-byte field at offset `off`. -/
def idField (bs : List Byte) (off : Nat) : Id := BitVec.ofNat 128 (field bs off 16)

/-- The 16 bytes of an id. -/
def idBytes (i : Id) : List Byte := beBytes 16 i.toNat

/-- A one-byte flag, 0 or 1. -/
def flagByte (b : Bool) : Byte := if b then 1 else 0

/-- A presence byte and the field, zeros when it is absent (R188). -/
def optBytes (k : Nat) : Option Nat → List Byte
  | none => 0 :: beBytes k 0
  | some n => 1 :: beBytes k n

/-- One bit of the CRC-16 of R182. -/
def crcBit (c : BitVec 16) : BitVec 16 := if c.msb then (c <<< 1) ^^^ 0x1021#16 else c <<< 1

/-- One byte of the CRC-16 of R182, most significant bit first. -/
def crcByte (c : BitVec 16) (b : Byte) : BitVec 16 :=
  crcBit (crcBit (crcBit (crcBit (crcBit (crcBit (crcBit (crcBit (c ^^^ (b.zeroExtend 16 <<< 8)))))))))

/-- The CRC-16 of R182: polynomial 1021h, initial value FFFFh, no reflection, no final inversion. -/
def crc16 (bs : List Byte) : BitVec 16 := bs.foldl crcByte 0xFFFF#16

/-- Bytes followed by their CRC, high byte first (R182, R187). -/
def withCrc (bs : List Byte) : List Byte := bs ++ beBytes 2 (crc16 bs).toNat

/-! ### Counts and samples (Introduction; R89, R90, R97) -/

/-- A 16-bit count of a record, saturating at 65,535. -/
def satAdd16 (n k : Nat) : Nat := min Config.maxCount16 (n + k)

/-- An 8-bit count, saturating at 255. -/
def satAdd8 (n k : Nat) : Nat := min Config.maxCount8 (n + k)

/-- Saturate to a signed 24-bit sample (R89, R90). -/
def sat24 (x : Int) : Int := max (-8388608) (min 8388607 x)

/-- `floor((x + 8192) ÷ 16384)`: scale by a gain in units of 1/16384, halves rounded toward the larger value (R89). -/
def scaleDown (x : Int) : Int := (x + 8192) / 16384

/-- The signed 24-bit sample whose three bytes stand at offset `off` (R89). -/
def sample24 (bs : List Byte) (off : Nat) : Int := (BitVec.ofNat 24 (field bs off 3)).toInt

/-- The magnitude of a sample (R107). -/
def magnitude (v : Int) : Nat := v.natAbs

/-! ### Rates and conversions (R4, R5, R18, R19) -/

/-- The sample rate in hertz. -/
def SampleRate.hz : SampleRate → Nat
  | .hz48000 => 48000
  | .hz96000 => 96000

/-- Samples per frame at an edit rate, S = sample rate ÷ E (R5). -/
def SampleRate.perFrame (r : SampleRate) (editRate : Nat) : Nat := r.hz / editRate

/-- A duration in milliseconds as samples (R19). -/
def SampleRate.ofMs (r : SampleRate) (ms : Nat) : Nat := ms * r.hz / 1000

/-- A duration in microseconds as samples, nearest, halves up (R18). -/
def SampleRate.ofUs (r : SampleRate) (us : Nat) : Nat := (us * r.hz + 500000) / 1000000

/-! ### Programmes and positions (R9, R14, R22, R61, R68) -/

/-- An entry's total, the sum of its reel durations (R22). -/
def Entry.total (e : Entry) : Nat := (e.reels.map Reel.duration).sum

/-- R(r), the first frame of reel `r` of an entry (R9). -/
def Entry.reelStart (e : Entry) (r : Nat) : Nat := ((e.reels.take r).map Reel.duration).sum

/-- The duration of reel `r`, 0 when the entry has no such reel. -/
def Entry.reelDuration (e : Entry) (r : Nat) : Nat := (e.reels[r]?.map Reel.duration).getD 0

/-- The reel whose first frame is `f`, for a reel after reel 0 (R9). -/
def Entry.reelStartingAt (e : Entry) (f : Nat) : Option Nat :=
  (List.range e.reels.length).find? fun r => r ≠ 0 && e.reelStart r == f

/-- The reel of frame `f`: the greatest `r` with R(r) ≤ f (R9). -/
def Entry.reelOf (e : Entry) (f : Nat) : Nat := (List.range e.reels.length).countP (fun r => e.reelStart r ≤ f) - 1

/-- The count point of an entry, absent when it is not counted (R16). -/
def Entry.countPoint (e : Entry) : Option Nat := e.percentage.map fun q => (e.total * q + 99) / 100

/-- The entry of the held programme at an index. -/
def State.entryAt (s : State) (i : Nat) : Option Entry := s.ctl.programme.bind fun p => p.entries[i]?

/-- The frame an anchored position resolves to in an entry of the given total (R14). -/
def resolve (total : Nat) : Anchor → Nat → Nat
  | .start, offset => min offset total
  | .finish, offset => total - offset

/-- Play order of positions (R61), strict. -/
def Pos.before (a b : Pos) : Bool :=
  a.entry < b.entry || (a.entry == b.entry && (a.reel < b.reel || (a.reel == b.reel && a.unit < b.unit)))

/-- The entry and frame a record of a fault or an input edge takes: the Timeline's while the mode is ADVANCING or FROZEN, absent
while it is STILL (R13). -/
def State.place (s : State) : Option (Nat × Nat) := if s.tl.mode = .still then none else some (s.tl.entry, s.tl.frame)

/-- Whether the show is RUNNING or PAUSED. -/
def State.playing (s : State) : Bool := s.ctl.state = .running || s.ctl.state = .paused

/-! ### The codes of R185 -/

/-- Reply status codes. -/
inductive Status where
  | ok | accepted | clamped | busy | notActive | unknownKind | badLength | badField | notFound | duplicate | tableFull | inUse
  | keyMissing | keyNotValid | allowance | logFull | mixedRate | clockNotSet | overflow
deriving DecidableEq, Repr

/-- Code of a reply status. -/
def Status.code : Status → Byte
  | .ok => 0 | .accepted => 1 | .clamped => 2 | .busy => 3 | .notActive => 4 | .unknownKind => 5 | .badLength => 6
  | .badField => 7 | .notFound => 8 | .duplicate => 9 | .tableFull => 10 | .inUse => 11 | .keyMissing => 12
  | .keyNotValid => 13 | .allowance => 14 | .logFull => 15 | .mixedRate => 16 | .clockNotSet => 17 | .overflow => 18

/-- Code of a power state. -/
def PowerState.code : PowerState → Byte | .active => 0 | .ready => 1 | .night => 2
/-- Code of a show state. -/
def ShowState.code : ShowState → Byte
  | .empty => 0 | .loaded => 1 | .arming => 2 | .armed => 3 | .running => 4 | .paused => 5 | .stopping => 6
/-- Code of a Timeline mode. -/
def Mode.code : Mode → Byte | .still => 0 | .advancing => 1 | .frozen => 2
/-- Code of a sample rate. -/
def SampleRate.code : SampleRate → Byte | .hz48000 => 0 | .hz96000 => 1
/-- Code of a SHOW event. -/
def ShowCode.code : ShowCode → Byte
  | .armed => 1 | .armTimeout => 2 | .disarmed => 3 | .started => 4 | .startFailed => 5 | .paused => 6 | .resumed => 7
  | .stopping => 8 | .ended => 9
/-- Code of an outcome, 0 when absent. -/
def outcomeCode : Option ShowOutcome → Byte
  | none => 0 | some .complete => 1 | some .stopped => 2 | some .abandoned => 3 | some .interrupted => 4
/-- Code of a showing record's outcome, OPEN being 5. -/
def recordOutcomeCode : Option ShowOutcome → Byte
  | none => 5 | o => outcomeCode o
/-- Code of a key state. -/
def KeyState.code : KeyState → Byte | .pending => 0 | .valid => 1 | .expired => 2 | .spent => 3 | .revoked => 4
/-- Code of a KEYS cause. -/
def KeysCause.code : KeysCause → Byte | .clock => 1 | .charge => 2
/-- Code of a fault kind. -/
def FaultKind.code : FaultKind → Byte
  | .lost => 1 | .late => 2 | .gap => 3 | .delayClamped => 4 | .region => 5 | .beyondReel => 6 | .overflow => 7 | .frame => 8
/-- Code of a fault cause. -/
def FaultCause.code : FaultCause → Byte
  | .key => 1 | .integrity => 2 | .storage => 3 | .format => 4 | .payload => 5 | .late => 6 | .picture => 7 | .mainSound => 8
  | .assistSound => 9 | .lost => 10 | .delaySet => 11 | .start => 12 | .region => 13 | .beyondReel => 14 | .overflow => 15
  | .timeout => 16 | .check => 17 | .length => 18
/-- The fault cause of a loss (R74, R135). -/
def LossCause.fault : LossCause → FaultCause
  | .key => .key | .integrity => .integrity | .storage => .storage | .format => .format | .payload => .payload
/-- Code of a meter mode. -/
def MeterMode.code : MeterMode → Nat | .single => 0 | .watch => 1 | .sweep => 2 | .cycle => 3
/-- Code of a meter point. -/
def MeterPoint.code : MeterPoint → Nat | .source => 0 | .output => 1
/-- The byte of a meter mode and point: mode in the high four bits. -/
def meterByte (m : MeterMode) (p : MeterPoint) : Byte := BitVec.ofNat 8 (m.code * 16 + p.code)
/-- Code of a meter state. -/
def MeterState.code : MeterState → Byte | .off => 0 | .idle => 1 | .measuring => 2
/-- Code of a trigger source. -/
def Trigger.code : Trigger → Byte | .request => 1 | .cue => 2 | .input => 3
/-- Code of a silence change. -/
def SilenceChange.code : SilenceChange → Byte | .raised => 1 | .cleared => 2
/-- Code of an edge. -/
def Edge.code : Edge → Byte | .rise => 1 | .fall => 2 | .both => 3
/-- Code of an input action. -/
def InputAction.code : InputAction → Byte
  | .none => 0 | .capture => 1 | .start => 2 | .pause => 3 | .resume => 4 | .stop => 5 | .emergency => 6 | .meter => 7
/-- Code of an input result. -/
def InputResult.code : InputResult → Byte | .performed => 1 | .ignored => 2 | .refused => 3
/-- Code of a wake cause. -/
def WakeCause.code : WakeCause → Byte | .line => 1 | .time => 2 | .reset => 3
/-- Code of a track kind. -/
def TrackKind.code : TrackKind → Byte | .picture => 1 | .sound => 2 | .subtitle => 3
/-- Code of a notice mark. -/
def Mark.code : Mark → Byte | .awaiting => 0 | .sent => 1
/-- Code of a line mode. -/
def LineMode.code : LineMode → Byte | .level => 0 | .pulse => 1 | .pair => 2
/-- Code of an accepted level. -/
def acceptedCode : Option Bool → Byte | some false => 0 | some true => 1 | none => 2
/-- Code of a pair state. -/
def PairState.code : PairState → Byte | .off => 0 | .aOn => 1 | .bOn => 2 | .deadA => 3 | .deadB => 4
/-- Code of a switch phase. -/
def SwitchPhase.code : SwitchPhase → Byte | .steady => 0 | .down => 1 | .waiting => 2 | .up => 3
/-- Code of a subtitle track. -/
def Track.code : Track → Byte | .main => 0 | .assist => 1
/-- Code of a line rate (R186). -/
def LineRate.code : LineRate → Byte | .baud921600 => 0 | .baud3000000 => 1
/-- Number of a notice source (R168). -/
def Source.num : Source → Nat
  | .show => 0 | .count => 1 | .keys => 2 | .log => 3 | .intakeFault => 4 | .soundFault => 5 | .subtitleFault => 6
  | .linkFault => 7 | .meter => 8 | .silence => 9 | .input => 10 | .cue => 11 | .wake => 12
/-- The notice sources in number order (R168). -/
def Source.all : List Source :=
  [.show, .count, .keys, .log, .intakeFault, .soundFault, .subtitleFault, .linkFault, .meter, .silence, .input, .cue, .wake]

/-- Take one free choice of order: does the first of two events that fall together come first (log entry 5)? -/
def State.choice (s : State) : Bool := Config.freeOrder s.freeCount

/-- Count a free choice as made. -/
def State.chose (s : State) : State := s.setFree (s.freeCount + 1)

end Sys2Proof.Machine
end

