-- ==== Sys2Proof/Machine/Flags.lean ====
section
/-!
DEFINITION. The fault capture records and the notice sources (chapter 10), the transmitter that sends replies and notices (R170),
and the end of an event, at which the summaries of the sources it raised are composed (R169).
-/
namespace Sys2Proof.Machine

/-! ### Notice sources -/

/-- A source's pending flag: it is in the pending order (R168). -/
def Notices.isPending (n : Notices) (src : Source) : Bool := n.order.any fun e => e.source = src

/-- A source's enable (R168). -/
def Notices.isEnabled (n : Notices) (src : Source) : Bool := n.enables.getLsbD src.num

/-- A source's owner reports an event: an enabled source that is not pending joins the tail of the order; nothing happens in NIGHT
(R168, R169). -/
def State.raise (s : State) (src : Source) : State :=
  if s.notice.isEnabled src && !s.notice.isPending src && s.pwr.state ≠ .night then
    s.setNotice { s.notice with order := s.notice.order ++ [{ source := src, mark := .awaiting, summary := none }] }
  else s

/-- Take a source out of the pending order (R171, R172). A notice of it already in the transmitter goes out whole, but marks
nothing any more (log entry 14). -/
def State.withdraw (s : State) (src : Source) : State :=
  let s := s.setNotice { s.notice with order := s.notice.order.filter fun e => e.source ≠ src }
  match s.link.transmitter with
  | some (.notice t, f) => if t = src then s.setLink { s.link with transmitter := some (.withdrawn, f) } else s
  | _ => s

/-! ### Fault capture records -/

/-- One of the four capture records (R165). -/
def Captures.get (c : Captures) : CaptureUnit → Option FaultRecord
  | .intake => c.intake
  | .sound => c.sound
  | .subtitle => c.subtitle
  | .link => c.link

/-- Replace one of the four capture records. -/
def Captures.set (c : Captures) (u : CaptureUnit) (r : Option FaultRecord) : Captures :=
  match u with
  | .intake => { c with intake := r }
  | .sound => { c with sound := r }
  | .subtitle => { c with subtitle := r }
  | .link => { c with link := r }

/-- The notice source of a capture record (R166). -/
def CaptureUnit.source : CaptureUnit → Source
  | .intake => .intakeFault
  | .sound => .soundFault
  | .subtitle => .subtitleFault
  | .link => .linkFault

/-- A block offers a fault to its capture record: a FREE record takes it and raises its source, a HELD one sets its repeat flag
(R166). -/
def State.offer (s : State) (u : CaptureUnit) (kind : FaultKind) (cause : FaultCause) (detail : List Byte) : State :=
  match s.caps.get u with
  | none =>
    (s.setCaps (s.caps.set u (some { kind := kind, cause := cause, place := s.place, clock := s.pwr.clock, detail := detail,
                                     repeated := false }))).raise u.source
  | some r => s.setCaps (s.caps.set u (some { r with repeated := true }))

/-! ### Summaries (the table of R169) -/

/-- The 8 summary bytes of the SHOW event. -/
def ShowEvent.summary (e : ShowEvent) : List Byte :=
  e.code.code :: e.state.code :: outcomeCode e.outcome :: (beBytes 4 e.programme ++ [0])

/-- The 8 summary bytes of the COUNT details. -/
def CountDetails.summary (d : CountDetails) : List Byte :=
  beBytes 4 d.number ++ beBytes 1 d.entry ++ beBytes 1 d.entriesCharged ++ beBytes 1 d.keysCharged ++ beBytes 1 d.count

/-- The 8 summary bytes of the KEYS details. -/
def KeysDetails.summary (d : KeysDetails) : List Byte :=
  beBytes 4 d.changed.toNat ++ beBytes 1 d.count ++
    match d.last with
    | some (i, st, c) => beBytes 1 i ++ [st.code, c.code]
    | none => [0, 0, 0]

/-- The 8 summary bytes of the LOG details. -/
def LogDetails.summary (d : LogDetails) : List Byte :=
  beBytes 1 d.records ++ beBytes 1 d.uncollected ++ beBytes 4 d.newest ++ [0, 0]

/-- The 8 summary bytes of a capture record: 255 and FFFFFFh stand for an absent entry and frame. -/
def FaultRecord.summary (r : FaultRecord) : List Byte :=
  r.kind.code :: r.cause.code ::
    ((match r.place with
      | some (e, f) => beBytes 1 e ++ beBytes 3 f
      | none => [255, 255, 255, 255]) ++ [flagByte r.repeated, 0])

/-- The 8 summary bytes of the METER details. -/
def MeterDetails.summary (d : MeterDetails) : List Byte :=
  meterByte d.mode d.point :: (beBytes 2 d.pass ++ beBytes 3 d.peak ++ beBytes 1 d.channel ++ [d.trigger.code])

/-- The 8 summary bytes of the SILENCE details. -/
def SilenceDetails.summary (d : SilenceDetails) : List Byte :=
  beBytes 3 d.raised.toNat ++
    (match d.last with
     | some (o, c, e) => beBytes 1 o ++ [c.code] ++ beBytes 1 e
     | none => [0, 0, 0]) ++ beBytes 1 d.count ++ [0]

/-- The 8 summary bytes of the INPUT details. -/
def InputDetails.summary (d : InputDetails) : List Byte :=
  beBytes 1 d.input ++ [d.edge.code, d.action.code, d.result.code] ++ beBytes 1 d.count ++ [0, 0, 0]

/-- The 8 summary bytes of the CUE details. -/
def CueDetails.summary (d : CueDetails) : List Byte :=
  beBytes 1 d.number ++ beBytes 1 d.entry ++ beBytes 3 d.frame ++ beBytes 1 d.count ++ [0, 0]

/-- The 8 summary bytes of the wake details. -/
def wakeSummary (w : WakeCause × Nat) : List Byte := w.1.code :: (beBytes 4 w.2 ++ [0, 0, 0])

/-- Eight zero bytes, for details that are absent. -/
def noSummary : List Byte := List.replicate 8 0

/-- The summary bytes of a source, composed from its owner's details as they stand (R169). -/
def State.summaryOf (s : State) : Source → List Byte
  | .show => (s.ctl.event.map ShowEvent.summary).getD noSummary
  | .count => (s.acct.count.map CountDetails.summary).getD noSummary
  | .keys => s.keys.details.summary
  | .log => (s.acct.logDetails.map LogDetails.summary).getD noSummary
  | .intakeFault => (s.caps.intake.map FaultRecord.summary).getD noSummary
  | .soundFault => (s.caps.sound.map FaultRecord.summary).getD noSummary
  | .subtitleFault => (s.caps.subtitle.map FaultRecord.summary).getD noSummary
  | .linkFault => (s.caps.link.map FaultRecord.summary).getD noSummary
  | .meter => (s.meter.details.map MeterDetails.summary).getD noSummary
  | .silence => s.meter.silence.summary
  | .input => (s.cue.inputDetails.map InputDetails.summary).getD noSummary
  | .cue => (s.cue.details.map CueDetails.summary).getD noSummary
  | .wake => (s.pwr.wake.map wakeSummary).getD noSummary

/-! ### The transmitter (R170) -/

/-- A NOTICE frame: kind 255, tag 0, the source number and the 8 summary bytes (R170, R185). -/
def noticeFrame (src : Source) (summary : List Byte) : Frame :=
  { kind := 255, tag := 0, payload := BitVec.ofNat 8 src.num :: summary }

/-- The oldest AWAITING entry's frame. -/
def State.nextNotice (s : State) : Option (Transmitting × Frame) :=
  (s.notice.order.find? fun e => e.mark = .awaiting).map fun e =>
    (.notice e.source, noticeFrame e.source (e.summary.getD noSummary))

/-- The ready reply that became ready first: the buffered one, or the first of the overflow list (R184). -/
def State.nextReply (s : State) : Option (Transmitting × Frame) :=
  match s.link.reply, s.link.overflow with
  | some r, o :: _ => if s.link.ahead = 0 then some (.reply, r) else some (.overflow, o)
  | some r, [] => some (.reply, r)
  | none, o :: _ => some (.overflow, o)
  | none, [] => none

/-- The frame a free transmitter sends next, after a reply (`afterReply`) or not (R170). -/
def State.nextFrame (s : State) (afterReply : Bool) : Option (Transmitting × Frame) :=
  let reply := s.nextReply
  let notice := s.nextNotice
  if afterReply && notice.isSome && (s.pwr.transition = .none || reply.isNone) then notice
  else if reply.isSome then reply
  else notice

/-- Hand a free transmitter its next frame; it stands still in NIGHT (R170, R176). -/
def State.transmit (s : State) (afterReply : Bool) : State :=
  if s.link.transmitter.isNone && s.pwr.state ≠ .night then
    s.setLink { s.link with transmitter := s.nextFrame afterReply }
  else s

/-- Compose the summaries of the sources raised in this event, from the details as they stand at its end (R169). -/
def State.compose (s : State) : State :=
  s.setNotice { s.notice with order := s.notice.order.map fun e =>
    if e.summary.isNone then { e with summary := some (s.summaryOf e.source) } else e }

/-- The end of an event: summaries are composed and a free transmitter takes its next frame. -/
def State.endEvent (s : State) (afterReply : Bool := false) : State := s.compose.transmit afterReply

/-- One of the four records as FAULT READ and FAULT CLEAR return it: its state and, when HELD, every field of R165 (log entry 11). The
frame takes the 4 bytes of R188's list, not the 3 bytes of its summary in R169: the model's choice (DESIGN CHOICE, log entry 37). -/
def faultBytes : Option FaultRecord → List Byte
  | none => [0]
  | some r =>
    1 :: r.kind.code :: r.cause.code ::
      (optBytes 1 (r.place.map Prod.fst) ++ optBytes 4 (r.place.map Prod.snd) ++ beBytes 4 r.clock ++
        beBytes 1 r.detail.length ++ r.detail ++ [flagByte r.repeated])

/-- The pending order as NOTICE CLEAR and NOTICE ENABLE return it: source numbers oldest first with each mark. -/
def Notices.orderBytes (n : Notices) : List Byte :=
  beBytes 1 n.order.length ++ n.order.flatMap fun e => [BitVec.ofNat 8 e.source.num, e.mark.code]

end Sys2Proof.Machine
end

