-- ==== Sys2Proof/Machine/Operands.lean ====
section
/-!
DEFINITION. Host requests: the take of a frame from the receive queue (R184), the reply (R185), and the fields a payload carries
(section 12.5, R188).
-/
namespace Sys2Proof.Machine

/-- What an owner answers: the state after the request, the reply status and the reply data. -/
structure Answer where
  state : State
  status : Status
  data : List Byte

/-- Refuse a request, changing nothing. -/
def State.refuse (s : State) (st : Status) (data : List Byte := []) : Answer := { state := s, status := st, data := data }

/-- Answer a request OK. -/
def State.ok (s : State) (data : List Byte := []) : Answer := { state := s, status := .ok, data := data }

/-- Whether a frame stands to be taken: it is the oldest of the receive queue, or the queue is empty and the frame arrives whole with
the command that takes it (R184, log entry 1). -/
def Link.offers (l : Link) (f : Frame) : Bool :=
  match l.queue with
  | g :: _ => g = f
  | [] => l.receiver = .awaiting && f.payload.length ≤ 1024

/-- Whether the interface can take this frame now: it stands to be taken, the reply buffer is empty, no transition is pending and
the link runs (R177, R180, R184). -/
def State.takes (s : State) (f : Frame) : Bool :=
  s.pwr.state ≠ .night && s.pwr.transition = .none && s.link.reply.isNone && s.link.offers f

/-- The state after the oldest frame has left the receive queue. -/
def State.dequeue (s : State) : State := s.setLink { s.link with queue := s.link.queue.tail }

/-- The kind of a reply: the request's kind + 128 (R185). -/
def replyKind (kind : Byte) : Byte := kind + 128

/-- Place a reply in the reply buffer; the OVERFLOW replies waiting became ready before it (R184). -/
def State.reply (s : State) (f : Frame) (st : Status) (data : List Byte) : State :=
  s.setLink { s.link with
    reply := some { kind := replyKind f.kind, tag := f.tag, payload := st.code :: data }
    ahead := s.link.overflow.length }

/-- A request: the take of its frame, its owner's handling and the reply, one event (R184). A command whose frame is not there to
take leaves the part unchanged (log entry 1). -/
def request (kind : Byte) (owner : List Byte → State → Answer) (tag : Byte) (payload : List Byte) (s : State) :
    Host.Outcome State Fault Refusal :=
  let f : Frame := { kind := kind, tag := tag, payload := payload }
  if s.takes f then
    let a := owner payload s.dequeue
    .next ((a.state.reply f a.status a.data).endEvent)
  else .next s

/-- Refuse BAD_LENGTH unless the payload has the length of its layout (R188). -/
def sized (n : Nat) (owner : List Byte → State → Answer) (payload : List Byte) (s : State) : Answer :=
  if payload.length = n then owner payload s else s.refuse .badLength

/-- A request whose payload is empty (R188). -/
def bare (owner : State → Answer) (payload : List Byte) (s : State) : Answer :=
  if payload.length = 0 then owner s else s.refuse .badLength

/-! ### One-byte names in payloads (R185, R188) -/

/-- The value of the byte at an offset. -/
def byteAt (p : List Byte) (off : Nat) : Nat := field p off 1

/-- A flag byte, 0 or 1. -/
def readFlag : Nat → Option Bool
  | 0 => some false
  | 1 => some true
  | _ => none

/-- A notice source number (R168). -/
def readSource (n : Nat) : Option Source := Source.all[n]?

/-- A capture record name (R188). -/
def readCaptureUnit : Nat → Option CaptureUnit
  | 0 => some .intake
  | 1 => some .sound
  | 2 => some .subtitle
  | 3 => some .link
  | _ => none

/-- A sample rate code (R185). -/
def readRate : Nat → Option SampleRate
  | 0 => some .hz48000
  | 1 => some .hz96000
  | _ => none

/-- A subtitle track (R188). -/
def readTrack : Nat → Option Track
  | 0 => some .main
  | 1 => some .assist
  | _ => none

/-- A LINE operation (R188). -/
def readLineOp : Nat → Option LineOp
  | 1 => some .set
  | 2 => some .clear
  | 3 => some .toggle
  | _ => none

/-- A pair target (R188). -/
def readPairTarget : Nat → Option PairTarget
  | 1 => some .a
  | 2 => some .b
  | 3 => some .off
  | _ => none

/-- A line mode a host may set (R141). -/
def readLineMode : Nat → Option LineMode
  | 0 => some .level
  | 1 => some .pulse
  | _ => none

/-- An edge setting (R185). -/
def readEdge : Nat → Option Edge
  | 1 => some .rise
  | 2 => some .fall
  | 3 => some .both
  | _ => none

/-- An input action (R185). -/
def readInputAction : Nat → Option InputAction
  | 0 => some .none
  | 1 => some .capture
  | 2 => some .start
  | 3 => some .pause
  | 4 => some .resume
  | 5 => some .stop
  | 6 => some .emergency
  | 7 => some .meter
  | _ => none

/-- A meter mode (R185). -/
def readMeterMode : Nat → Option MeterMode
  | 0 => some .single
  | 1 => some .watch
  | 2 => some .sweep
  | 3 => some .cycle
  | _ => none

/-- A meter point (R185). -/
def readMeterPoint : Nat → Option MeterPoint
  | 0 => some .source
  | 1 => some .output
  | _ => none

/-- An edit rate, coded by the rate itself (R185). -/
def readEditRate (n : Nat) : Option Nat := if n ∈ [24, 25, 30, 48, 50, 60] then some n else none

/-- A set of outputs in 3 bytes; a bit above output 17 is not admitted (R185). -/
def readOutputs (n : Nat) : Option (BitVec 18) := if n < 2 ^ 18 then some (BitVec.ofNat 18 n) else none

end Sys2Proof.Machine
end

