-- ==== Sys2Proof/Machine/Keys.lean ====
section
/-!
DEFINITION. The Key Table (chapter 3): evaluation against the booth clock, the KEYS details, lookup, charge, pinning, and the
requests KEY PUT, KEY REMOVE, KEY REVOKE, KEY GET and KEY LIST.
-/
namespace Sys2Proof.Machine

/-! ### Key states (R45 to R47) -/

/-- A key state no evaluation, charge or revocation changes (R45). -/
def KeyState.final : KeyState → Bool
  | .expired | .spent | .revoked => true
  | .pending | .valid => false

/-- The clock state of a window (R45). -/
def clockState (clockSet : Bool) (clock start finish : Nat) : KeyState :=
  if !clockSet then .pending else if clock < start then .pending else if clock ≤ finish then .valid else .expired

/-- One record evaluated against the booth clock (R45). -/
def KeyRecord.evaluate (clockSet : Bool) (clock : Nat) (k : KeyRecord) : KeyRecord :=
  if k.state.final then k else { k with state := clockState clockSet clock k.windowStart k.windowEnd }

/-- The indexes and new states of the records whose state differs between two tables of places, in index order. -/
def stateChanges (old new : List (Option KeyRecord)) : List (Nat × KeyState) :=
  (indexed (old.zip new)).filterMap fun
    | (i, some a, some b) => if a.state = b.state then none else some (i, b.state)
    | _ => none

/-- Put changed indexes into a changed set. -/
def markChanged (set : BitVec 32) (changes : List (Nat × KeyState)) : BitVec 32 :=
  changes.foldl (fun b c => b ||| (1#32 <<< c.1)) set

/-- An event's state changes go into the KEYS details and raise the KEYS source; an event without one does neither (R47). -/
def State.reportKeys (s : State) (changes : List (Nat × KeyState)) (cause : KeysCause) : State :=
  match changes.getLast? with
  | none => s
  | some (i, st) =>
    let d := if s.notice.isPending .keys then s.keys.details else KeysDetails.reset
    let d := { changed := markChanged d.changed changes, count := satAdd8 d.count changes.length, last := some (i, st, cause) }
    (s.setKeys { s.keys with details := d }).raise .keys

/-- An evaluation event: all 32 places against the clock as it stands (R46, R47). -/
def State.evaluateKeys (s : State) : State :=
  let new := s.keys.places.map (Option.map (KeyRecord.evaluate s.pwr.clockSet s.pwr.clock))
  (s.setKeys { s.keys with places := new }).reportKeys (stateChanges s.keys.places new) .clock

/-! ### Finding, pinning, lookup and charge (R54 to R58) -/

/-- The record of a key id. -/
def KeyTable.find (t : KeyTable) (id : Id) : Option KeyRecord :=
  t.places.findSome? fun p => p.filter fun k => k.id = id

/-- The table index of a key id. -/
def KeyTable.indexOf (t : KeyTable) (id : Id) : Option Nat := indexWhere (fun p => (p.map KeyRecord.id) = some id) t.places

/-- Whether a record's scope includes a track kind (R43). -/
def KeyRecord.covers (k : KeyRecord) : TrackKind → Bool
  | .picture => k.scopePicture
  | .sound => k.scopeSound
  | .subtitle => k.scopeSubtitle

/-- Change every record. -/
def KeyTable.mapRecords (f : KeyRecord → KeyRecord) (t : KeyTable) : KeyTable := { t with places := t.places.map (Option.map f) }

/-- Set the pinned flags of a pin set (R54). -/
def KeyTable.pin (ids : List Id) (t : KeyTable) : KeyTable :=
  t.mapRecords fun k => if k.id ∈ ids then { k with pinned := true } else k

/-- Clear the pinned flags of a pin set (R54). -/
def KeyTable.unpin (ids : List Id) (t : KeyTable) : KeyTable :=
  t.mapRecords fun k => if k.id ∈ ids then { k with pinned := false } else k

/-- Clear every pinned flag, and the KEYS details (R44): the table after a restart or a night wake. -/
def KeyTable.restart (t : KeyTable) : KeyTable :=
  { (t.mapRecords fun k => { k with pinned := false }) with details := .reset }

/-- Whether the record of a key id is VALID; a missing record is not. -/
def KeyTable.valid (t : KeyTable) (id : Id) : Bool := ((t.find id).map fun k => decide (k.state = .valid)).getD false

/-- Whether the grace of R55 holds: the show is RUNNING, PAUSED or STOPPING. -/
def ShowState.grace : ShowState → Bool
  | .running | .paused | .stopping => true
  | .empty | .loaded | .arming | .armed => false

/-- A lookup for decryption (R55): the content and check keys, or the number of the first condition that fails. -/
def State.lookup (s : State) (id composition : Id) (kind : TrackKind) : Except Nat (Id × Id) :=
  match s.keys.find id with
  | none => .error 1
  | some k =>
    if k.composition ≠ composition then .error 2
    else if !k.covers kind then .error 3
    else if !k.pinned then .error 4
    else if k.state = .valid || s.ctl.state.grace then .ok (k.contentKey, k.checkKey)
    else .error 5

/-- One record charged once: the count increases, saturating, and a PENDING or VALID record whose count equals its allowance
becomes SPENT (R57, R58). -/
def KeyRecord.charge (k : KeyRecord) : KeyRecord :=
  let n := satAdd16 k.charged 1
  { k with charged := n, state := if k.allowance = some n && !k.state.final then .spent else k.state }

/-- Charge the key ids of an entry, in list order (R57); the state changes raise KEYS once (R58). -/
def State.chargeKeys (s : State) (ids : List Id) : State :=
  let new := ids.foldl
    (fun ps id => ps.map (Option.map fun k => if k.id = id then k.charge else k)) s.keys.places
  (s.setKeys { s.keys with places := new }).reportKeys (stateChanges s.keys.places new) .charge

/-! ### Requests (R48 to R53) -/

/-- The remaining count: allowance minus charged count, absent when unlimited (R43). -/
def KeyRecord.remaining (k : KeyRecord) : Option Nat := k.allowance.map (· - k.charged)

/-- The scope byte (section 12.5). -/
def KeyRecord.scopeByte (k : KeyRecord) : Byte :=
  BitVec.ofNat 8 (k.scopePicture.toNat + 2 * k.scopeSound.toNat + 4 * k.scopeSubtitle.toNat)

/-- The non-secret fields of a record with its table index, in the order of R52. -/
def KeyRecord.bytes (i : Nat) (k : KeyRecord) : List Byte :=
  beBytes 1 i ++ idBytes k.id ++ idBytes k.composition ++ [k.scopeByte] ++ beBytes 4 k.windowStart ++ beBytes 4 k.windowEnd ++
    optBytes 2 k.allowance ++ beBytes 2 k.charged ++ optBytes 2 k.remaining ++ [k.state.code, flagByte k.pinned]

/-- KEY PUT's allowance fields: absent, or 1 to 65,535 (check 4 of R48). -/
def readAllowance (present value : Nat) : Option (Option Nat) :=
  if present = 0 ∧ value = 0 then some none else if present = 1 ∧ value ≠ 0 then some (some value) else none

/-- Checks 2 to 6 of R48 and the store of R49. -/
def ownerKeyPut (p : List Byte) (s : State) : Answer :=
  let scope := byteAt p 32
  let start := field p 65 4
  let finish := field p 69 4
  if scope = 0 || 7 < scope then s.refuse .badField
  else if finish < start then s.refuse .badField
  else match readAllowance (byteAt p 73) (field p 74 2) with
    | none => s.refuse .badField
    | some allowance =>
      match s.keys.indexOf (idField p 0) with
      | some i => s.refuse .duplicate (beBytes 1 i)
      | none =>
        match indexWhere Option.isNone s.keys.places with
        | none => s.refuse .tableFull
        | some i =>
          let k : KeyRecord :=
            { id := idField p 0, composition := idField p 16, scopePicture := scope.testBit 0, scopeSound := scope.testBit 1,
              scopeSubtitle := scope.testBit 2, contentKey := idField p 33, checkKey := idField p 49, windowStart := start,
              windowEnd := finish, allowance := allowance, charged := 0,
              state := clockState s.pwr.clockSet s.pwr.clock start finish, pinned := false }
          (s.setKeys { s.keys with places := updateAt (fun _ => some k) i s.keys.places }).ok (beBytes 1 i ++ [k.state.code])

/-- KEY PUT (R48, R49). -/
def execKeyPut (tag : Byte) (payload : List Byte) (s : State) : Host.Outcome State Fault Refusal :=
  request 32 (sized 76 ownerKeyPut) tag payload s

/-- KEY REMOVE: the place of an unpinned key is freed and leaves the KEYS changed set (R50). -/
def ownerKeyRemove (p : List Byte) (s : State) : Answer :=
  match s.keys.indexOf (idField p 0), s.keys.find (idField p 0) with
  | some i, some k =>
    if k.pinned then s.refuse .inUse (beBytes 1 i)
    else
      (s.setKeys { places := updateAt (fun _ => none) i s.keys.places,
                   details := { s.keys.details with changed := s.keys.details.changed &&& ~~~(1#32 <<< i) } }).ok (beBytes 1 i)
  | _, _ => s.refuse .notFound

/-- KEY REMOVE (R50). -/
def execKeyRemove (tag : Byte) (payload : List Byte) (s : State) : Host.Outcome State Fault Refusal :=
  request 33 (sized 16 ownerKeyRemove) tag payload s

/-- A record revoked: PENDING and VALID become REVOKED, a final state is kept (R51). -/
def KeyRecord.revoke (k : KeyRecord) : KeyRecord := if k.state.final then k else { k with state := .revoked }

/-- KEY REVOKE (R51). -/
def ownerKeyRevoke (p : List Byte) (s : State) : Answer :=
  match s.keys.indexOf (idField p 0), s.keys.find (idField p 0) with
  | some i, some k =>
    (s.setKeys { s.keys with places := updateAt (fun _ => some k.revoke) i s.keys.places }).ok
      (beBytes 1 i ++ [k.state.code, k.revoke.state.code])
  | _, _ => s.refuse .notFound

/-- KEY REVOKE (R51). -/
def execKeyRevoke (tag : Byte) (payload : List Byte) (s : State) : Host.Outcome State Fault Refusal :=
  request 34 (sized 16 ownerKeyRevoke) tag payload s

/-- KEY GET (R52). -/
def ownerKeyGet (p : List Byte) (s : State) : Answer :=
  match s.keys.indexOf (idField p 0), s.keys.find (idField p 0) with
  | some i, some k => s.ok (k.bytes i)
  | _, _ => s.refuse .notFound

/-- KEY GET (R52). -/
def execKeyGet (tag : Byte) (payload : List Byte) (s : State) : Host.Outcome State Fault Refusal :=
  request 35 (sized 16 ownerKeyGet) tag payload s

/-- The occupied places from an index upward, in index order. -/
def KeyTable.occupiedFrom (t : KeyTable) (i : Nat) : List (Nat × KeyRecord) :=
  (indexed t.places).filterMap fun
    | (j, some k) => if i ≤ j then some (j, k) else none
    | _ => none

/-- KEY LIST: a page of up to 16 records (R53). -/
def ownerKeyList (p : List Byte) (s : State) : Answer :=
  let first := byteAt p 0
  if Config.keyPlaces ≤ first then s.refuse .badField
  else
    let rest := s.keys.occupiedFrom first
    let page := rest.take 16
    let next := match rest.drop 16, page.getLast? with
      | _ :: _, some (j, _) => j + 1
      | _, _ => 255
    s.ok (beBytes 1 (s.keys.places.countP Option.isSome) ++ beBytes 4 s.keys.details.changed.toNat ++
      beBytes 1 s.keys.details.count ++ beBytes 1 page.length ++ page.flatMap (fun (j, k) => k.bytes j) ++ beBytes 1 next)

/-- KEY LIST (R53). -/
def execKeyList (tag : Byte) (payload : List Byte) (s : State) : Host.Outcome State Fault Refusal :=
  request 36 (sized 1 ownerKeyList) tag payload s

end Sys2Proof.Machine
end

