-- ==== Sys2Proof/Machine/Account.lean ====
section
/-!
DEFINITION. The Accounting Unit (chapter 9): opening, filling, charging and closing the showing record, and the requests LOG READ,
LOG COLLECT and LOG STATUS.
-/
namespace Sys2Proof.Machine

/-! ### The open record (R155 to R157) -/

/-- The open showing record: the newest one, when it has no outcome (R153, R155). -/
def Accounting.opened (a : Accounting) : Option ShowingRecord := a.log.getLast?.filter fun r => r.outcome.isNone

/-- Change the open record; without one nothing changes (R157). -/
def Accounting.modifyOpen (f : ShowingRecord → ShowingRecord) (a : Accounting) : Accounting :=
  match a.opened with
  | some r => { a with log := a.log.dropLast ++ [f r] }
  | none => a

/-- Change entry record `i` of the open record. -/
def Accounting.modifyEntry (i : Nat) (f : EntryRecord → EntryRecord) (a : Accounting) : Accounting :=
  a.modifyOpen fun r => { r with entries := updateAt f i r.entries }

/-- The showing number after `n` (R154). -/
def nextShowingNumber (n : Nat) : Nat := if n = Config.maxWord32 then 1 else n + 1

/-- Open a showing record for a programme at a booth clock value (R155). -/
def Accounting.openRecord (programme clock : Nat) (a : Accounting) : Accounting :=
  let log := if a.log.length = Config.logCapacity then removeFirst ShowingRecord.collected a.log else a.log
  let n := nextShowingNumber a.counter
  { a with
    log := log ++ [{ number := n, programme := programme, startClock := clock, endClock := none, outcome := none,
                     collected := false, entries := [] }]
    counter := n }

/-- The entry start of an entry appends its entry record (R156). -/
def Accounting.entryStart (e : Entry) (countPoint : Option Nat) (a : Accounting) : Accounting :=
  a.modifyOpen fun r =>
    { r with entries := r.entries ++ [{ composition := e.composition, framesPlayed := none, countPoint := countPoint,
                                        charged := false, pictureDefects := 0, soundDefects := 0, subtitleDefects := 0,
                                        silent := 0 }] }

/-- The entry end of entry `i` sets its frames played to its total (R156). -/
def Accounting.entryEnd (i total : Nat) (a : Accounting) : Accounting :=
  a.modifyEntry i fun r => { r with framesPlayed := some total }

/-- One picture defect of entry `i` (R157). -/
def Accounting.pictureDefect (i : Nat) (a : Accounting) : Accounting :=
  a.modifyEntry i fun r => { r with pictureDefects := satAdd16 r.pictureDefects 1 }

/-- One sound defect of entry `i` (R157). -/
def Accounting.soundDefect (i : Nat) (a : Accounting) : Accounting :=
  a.modifyEntry i fun r => { r with soundDefects := satAdd16 r.soundDefects 1 }

/-- `n` subtitle defects of entry `i` (R157). -/
def Accounting.subtitleDefects (i n : Nat) (a : Accounting) : Accounting :=
  a.modifyEntry i fun r => { r with subtitleDefects := satAdd16 r.subtitleDefects n }

/-- An output joins the silent-output set of entry `i` (R157). -/
def Accounting.silentOutput (i output : Nat) (a : Accounting) : Accounting :=
  a.modifyEntry i fun r => { r with silent := r.silent ||| (1#18 <<< output) }

/-! ### Charging (R158) -/

/-- The COUNT details after a charge: replaced by it, or updated when the source is pending (R158). -/
def State.countDetails (s : State) (number entry charged keys : Nat) : CountDetails :=
  let before := match s.acct.count with
    | some d => if s.notice.isPending .count then d.count else 0
    | none => 0
  { number := number, entry := entry, entriesCharged := charged, keysCharged := keys, count := satAdd8 before 1 }

/-- A marked slot end of entry `i`: an entry record not charged yet is charged, its keys are charged and COUNT is raised (R158). -/
def State.chargeEntry (s : State) (i : Nat) : State :=
  match s.acct.opened with
  | none => s
  | some r =>
    match r.entries[i]? with
    | none => s
    | some e =>
      if e.charged then s
      else
        let s := s.setAcct (s.acct.modifyEntry i fun r => { r with charged := true })
        let keys := ((s.entryAt i).map Entry.keys).getD []
        let s := s.chargeKeys keys
        let charged := ((s.acct.opened.map ShowingRecord.entries).getD []).countP EntryRecord.charged
        (s.setAcct { s.acct with count := some (s.countDetails r.number i charged keys.length) }).raise .count

/-! ### Closing (R159 to R161) -/

/-- Set the last element of a list. -/
def updateLast {α : Type} (f : α → α) (l : List α) : List α :=
  match l.getLast? with
  | some a => l.dropLast ++ [f a]
  | none => []

/-- Close the open record: the frames played of its last entry record, the end clock and the outcome (R159, R160). -/
def Accounting.close (frame clock : Nat) (outcome : Option ShowOutcome) (a : Accounting) : Accounting :=
  a.modifyOpen fun r =>
    { r with endClock := some clock, outcome := outcome,
             entries := updateLast (fun e => { e with framesPlayed := some frame }) r.entries }

/-- Whether the log holds 48 records of which none is collected (R161). -/
def Accounting.full (a : Accounting) : Bool := a.log.length = Config.logCapacity && a.log.all fun r => !r.collected

/-- The LOG details of a log (R161). -/
def Accounting.summarise (a : Accounting) : LogDetails :=
  { records := a.log.length, uncollected := a.log.countP fun r => !r.collected,
    oldest := (a.log.head?.map ShowingRecord.number).getD 0, newest := (a.log.getLast?.map ShowingRecord.number).getD 0 }

/-- The examination after a close: a full log without a collected record raises LOG (R161). -/
def State.examineLog (s : State) : State :=
  if s.acct.full then (s.setAcct { s.acct with logDetails := some s.acct.summarise }).raise .log else s

/-! ### Requests (R162 to R164) -/

/-- One entry record of the read-out: the entry in play, whose frames played are absent (R153), is sent with the Timeline's F (R162,
section 12.5). -/
def EntryRecord.bytes (frame : Nat) (e : EntryRecord) : List Byte :=
  idBytes e.composition ++ [flagByte e.framesPlayed.isNone] ++ beBytes 4 (e.framesPlayed.getD frame) ++
    beBytes 4 (e.countPoint.getD 0) ++ [flagByte e.charged] ++ beBytes 2 e.pictureDefects ++ beBytes 2 e.soundDefects ++
    beBytes 2 e.subtitleDefects ++ beBytes 3 e.silent.toNat

/-- The showing record read-out from entry record `first` (section 12.5). -/
def ShowingRecord.bytes (r : ShowingRecord) (first frame : Nat) : List Byte :=
  let page := (r.entries.drop first).take 8
  let next := if first + 8 < r.entries.length then first + 8 else 255
  beBytes 4 r.number ++ beBytes 4 r.programme ++ beBytes 4 r.startClock ++ optBytes 4 r.endClock ++
    [recordOutcomeCode r.outcome, flagByte r.collected] ++ beBytes 1 r.entries.length ++ beBytes 1 next ++
    page.flatMap (EntryRecord.bytes frame)

/-- LOG READ (R162). Of two records that hold one showing number, which the counter's wrap allows (R154), the number names the older:
the model's choice (DESIGN CHOICE, log entry 42). -/
def ownerLogRead (p : List Byte) (s : State) : Answer :=
  let form := byteAt p 0
  let number := field p 1 4
  let first := byteAt p 5
  if 1 < form || (form = 1 && number ≠ 0) then s.refuse .badField
  else
    let found := if form = 1 then s.acct.log.find? (fun r => !r.collected) else s.acct.log.find? (fun r => r.number = number)
    match found with
    | none => s.refuse .notFound
    | some r => if r.entries.length ≤ first then s.refuse .badField else s.ok (r.bytes first s.tl.frame)

/-- LOG READ (R162). -/
def execLogRead (tag : Byte) (payload : List Byte) (s : State) : Host.Outcome State Fault Refusal :=
  request 72 (sized 6 ownerLogRead) tag payload s

/-- Whether LOG COLLECT `n` reaches record `r`, the `i`-th of the log: at or before the record numbered `n`, or numbered at most
`n` when there is none (R163). Of two records numbered `n` the older counts (DESIGN CHOICE, log entry 42). -/
def Accounting.reaches (a : Accounting) (n i : Nat) (r : ShowingRecord) : Bool :=
  match indexWhere (fun r => r.number = n) a.log with
  | some j => i ≤ j
  | none => r.number ≤ n

/-- The log after LOG COLLECT `n`: the closed records it reaches are collected (R163). -/
def Accounting.collect (a : Accounting) (n : Nat) : Accounting :=
  { a with log := (indexed a.log).map fun (i, r) =>
      if a.reaches n i r && r.outcome.isSome then { r with collected := true } else r }

/-- LOG COLLECT (R163). -/
def ownerLogCollect (p : List Byte) (s : State) : Answer :=
  let a := s.acct.collect (field p 0 4)
  let before := s.acct.log.countP ShowingRecord.collected
  let after := a.log.countP ShowingRecord.collected
  (s.setAcct a).ok (beBytes 1 (after - before) ++ beBytes 1 after)

/-- LOG COLLECT (R163). -/
def execLogCollect (tag : Byte) (payload : List Byte) (s : State) : Host.Outcome State Fault Refusal :=
  request 73 (sized 4 ownerLogCollect) tag payload s

/-- The COUNT details as LOG STATUS returns them. -/
def countBytes : Option CountDetails → List Byte
  | none => 0 :: noSummary
  | some d => 1 :: d.summary

/-- LOG STATUS (R164). Whether a record is open and its showing number are sent as one presence byte and the number: that the byte
serves both is the model's choice (DESIGN CHOICE, log entry 38). -/
def ownerLogStatus (s : State) : Answer :=
  let a := s.acct
  s.ok (beBytes 1 a.log.length ++ beBytes 1 (Config.logCapacity - a.log.length) ++
    beBytes 1 (a.log.countP fun r => r.outcome.isSome && !r.collected) ++ beBytes 1 (a.log.countP ShowingRecord.collected) ++
    optBytes 4 (a.opened.map ShowingRecord.number) ++ optBytes 4 (a.log.head?.map ShowingRecord.number) ++
    optBytes 4 (a.log.getLast?.map ShowingRecord.number) ++ beBytes 4 a.counter ++ countBytes a.count)

/-- LOG STATUS (R164). -/
def execLogStatus (tag : Byte) (payload : List Byte) (s : State) : Host.Outcome State Fault Refusal :=
  request 74 (bare ownerLogStatus) tag payload s

end Sys2Proof.Machine
end

