-- ==== Sys2Proof/Machine/Priming.lean ====
section
/-!
DEFINITION. The SHOW event summary (R27) and the priming condition, which the reports of Intake and of the Subtitle Engine lead the
Show Controller to evaluate (R31).
-/
namespace Sys2Proof.Machine

/-- Report a SHOW event with the show state as it stands and an outcome, and raise SHOW (R27). -/
def State.showEvent (s : State) (code : ShowCode) (outcome : Option ShowOutcome) : State :=
  (s.setCtl { s.ctl with
    event := some { code := code, state := s.ctl.state, outcome := outcome, programme := (s.ctl.programme.map Programme.id).getD 0 } }).raise
    .show

/-- A staging queue (R67). -/
def Intake.queue (x : Intake) : QueueId → List QueueEntry
  | .pq => x.pq
  | .sq0 => x.sq0
  | .sq1 => x.sq1

/-- Whether a queue serves an entry: SQ1 serves the entries with assist sound (R68). -/
def QueueId.serves (q : QueueId) (e : Entry) : Bool :=
  match q with
  | .pq | .sq0 => true
  | .sq1 => e.assistChannels ≠ 0

/-- The units of a queue's track in a whole programme (R31). -/
def Programme.units (p : Programme) (q : QueueId) : Nat := ((p.entries.filter q.serves).map Entry.total).sum

/-- Whether a queue entry is READY or LOST. -/
def QueueEntry.settled (e : QueueEntry) : Bool :=
  match e.status with
  | .reserved => false
  | .ready _ | .lost _ => true

/-- Whether a present queue is primed: 16 READY or LOST entries, or every unit of its track when there are fewer (R31). -/
def State.queuePrimed (s : State) (p : Programme) (q : QueueId) : Bool :=
  min Config.primeDepth (p.units q) ≤ (s.intake.queue q).countP QueueEntry.settled

/-- One of the two subtitle tracks (R119). -/
def Subtitles.track (x : Subtitles) : Track → SubtitleTrack
  | .main => x.main
  | .assist => x.assist

/-- The subtitle track id a reel holds for a track (R22). -/
def Reel.subtitle (r : Reel) : Track → Option Nat
  | .main => r.mainSubtitle
  | .assist => r.assistSubtitle

/-- Whether a track keeps the priming condition waiting: it is enabled, reel 0 of entry 0 holds a track id of its kind, and that
reel's table has been neither loaded nor found lost (R31). -/
def State.subtitleAwaited (s : State) (e : Entry) (t : Track) : Bool :=
  let x := s.subs.track t
  x.enabled && ((e.reels.head?.bind fun r => r.subtitle t).isSome) &&
    !(x.current.any fun c => c.entry = 0 && c.reel = 0)

/-- The priming condition (R31). -/
def State.primed (s : State) : Bool :=
  match s.ctl.programme with
  | none => false
  | some p =>
    match p.entries.head? with
    | none => false
    | some e =>
      s.queuePrimed p .pq && s.queuePrimed p .sq0 && (e.assistChannels = 0 || s.queuePrimed p .sq1) &&
        !s.subtitleAwaited e .main && !s.subtitleAwaited e .assist

/-- A report to the Show Controller: in ARMING, the show becomes ARMED when the priming condition holds (R31). -/
def State.checkPriming (s : State) : State :=
  if s.ctl.state = .arming && s.primed then
    (s.setCtl { s.ctl with state := .armed, armTimer := none }).showEvent .armed none
  else s

end Sys2Proof.Machine
end

