-- ==== Sys2Proof/Machine/Subtitle.lean ====
section
/-!
DEFINITION. The Subtitle Engine (chapter 7): converting and loading a unit into a reel table, the CURRENT and NEXT places, sending
at the slot start, enabling and disabling a track, and the requests SUBTITLE SET and SUBTITLE QUERY.
-/
namespace Sys2Proof.Machine

/-! ### Units and reel tables (R124 to R127) -/

/-- An event record of a subtitle unit (R124, section 12.5). -/
structure SubtitleSource where
  number : Nat
  inSteps : Nat
  outSteps : Nat
  fadeInSteps : Nat
  fadeOutSteps : Nat
  region : Nat
  style : Nat
  text : List Byte
deriving DecidableEq, Repr

/-- Read `n` event records, back to back, that fill the bytes exactly (R124); the text of each is 1 to 240 bytes. -/
def readSubtitleEvents : (n : Nat) → (bs : List Byte) → Option (List SubtitleSource)
  | 0, bs => if bs.isEmpty then some [] else none
  | n + 1, bs =>
    let len := byteAt bs 18
    if bs.length < 19 + len || len = 0 || 240 < len then none
    else
      (readSubtitleEvents n (bs.drop (19 + len))).map fun rest =>
        { number := field bs 0 4, inSteps := field bs 4 4, outSteps := field bs 8 4, fadeInSteps := field bs 12 2,
          fadeOutSteps := field bs 14 2, region := byteAt bs 16, style := byteAt bs 17, text := (bs.drop 19).take len } :: rest

/-- Read a subtitle unit's payload: its step rate and events, or nothing when it is malformed (R124). -/
def readSubtitleUnit (bs : List Byte) : Option (Nat × List SubtitleSource) :=
  let rate := field bs 0 2
  if bs.length < 4 || rate = 0 || 1000 < rate then none
  else (readSubtitleEvents (field bs 2 2) (bs.drop 4)).map fun es => (rate, es)

/-- A count of steps as frames: nearest, halves up (R125). -/
def stepFrames (editRate stepRate t : Nat) : Nat := (t * editRate + stepRate / 2) / stepRate

/-- Highest region of a track (R119, R126). -/
def Track.topRegion : Track → Nat
  | .main => 3
  | .assist => 0

/-- The six steps of R126 for one event of a reel of `d` frames, with frames still reel-relative; the cause when it is dropped. -/
def convertEvent (t : Track) (editRate stepRate d : Nat) (e : SubtitleSource) : Except FaultCause SubtitleEvent :=
  let f := stepFrames editRate stepRate
  let inF := f e.inSteps
  if t.topRegion < e.region then .error .region
  else if d ≤ inF then .error .beyondReel
  else
    let out := min (f e.outSteps) d
    let out := if out ≤ inF then inF + 1 else out
    let fadeIn := min (f e.fadeInSteps) (out - inF)
    let fadeOut := min (f e.fadeOutSteps) (out - inF - fadeIn)
    .ok { number := e.number, inFrame := inF, outFrame := out, fadeIn := fadeIn, fadeOut := fadeOut, region := e.region,
          style := e.style, text := e.text, sent := false }

/-- The events of a unit examined in record order: the admitted ones in record order, and the drops, cause and event number, in
record order (R126, R127). -/
def admitEvents (t : Track) (editRate stepRate d : Nat) :
    (admitted : Nat) → List SubtitleSource → List SubtitleEvent × List (FaultCause × Nat)
  | _, [] => ([], [])
  | n, e :: es =>
    match convertEvent t editRate stepRate d e with
    | .error c =>
      let r := admitEvents t editRate stepRate d n es
      (r.1, (c, e.number) :: r.2)
    | .ok ev =>
      if n < Config.reelTableCapacity then
        let r := admitEvents t editRate stepRate d (n + 1) es
        (ev :: r.1, r.2)
      else
        let r := admitEvents t editRate stepRate d n es
        (r.1, (.overflow, e.number) :: r.2)

/-- Insert an event after those of smaller or equal in-frame. -/
def insertByInFrame (e : SubtitleEvent) : List SubtitleEvent → List SubtitleEvent
  | [] => [e]
  | a :: l => if e.inFrame < a.inFrame then e :: a :: l else a :: insertByInFrame e l

/-- Sort by in-frame; events of equal in-frame keep their order (R127). -/
def sortByInFrame (l : List SubtitleEvent) : List SubtitleEvent := l.foldl (fun acc e => insertByInFrame e acc) []

/-- Make an event's frames entry-relative (R127). -/
def SubtitleEvent.shift (r : Nat) (e : SubtitleEvent) : SubtitleEvent :=
  { e with inFrame := e.inFrame + r, outFrame := e.outFrame + r }

/-- The table of a lost unit or a malformed payload (R127). -/
def ReelTable.missing (entry reel : Nat) : ReelTable := { entry := entry, reel := reel, lost := true, events := [], defects := 1 }

/-! ### The reel in play and the two places (R128, R129) -/

/-- Change one track. -/
def Subtitles.modify (x : Subtitles) (t : Track) (f : SubtitleTrack → SubtitleTrack) : Subtitles :=
  match t with
  | .main => { x with main := f x.main }
  | .assist => { x with assist := f x.assist }

/-- Change one track of the state. -/
def State.modifyTrack (s : State) (t : Track) (f : SubtitleTrack → SubtitleTrack) : State := s.setSubs (s.subs.modify t f)

/-- The reel in play: reel 0 of entry 0 in ARMING and ARMED, the Timeline's otherwise (R71, R128). -/
def State.reelInPlay (s : State) : Nat × Nat :=
  if s.ctl.state = .arming || s.ctl.state = .armed then (0, 0) else (s.tl.entry, s.tl.reel)

/-- The reel that follows a reel in play order, absent after the programme's last (R71, R128). -/
def State.followingReel (s : State) (r : Nat × Nat) : Option (Nat × Nat) :=
  match s.entryAt r.1 with
  | none => none
  | some e =>
    if r.2 + 1 < e.reels.length then some (r.1, r.2 + 1)
    else if (s.entryAt (r.1 + 1)).isSome then some (r.1 + 1, 0) else none

/-- Reels in play order, strict. -/
def reelBefore (a b : Nat × Nat) : Bool := a.1 < b.1 || (a.1 == b.1 && a.2 < b.2)

/-- The handover of a track to the reel in play (R129). -/
def SubtitleTrack.handover (reel : Nat × Nat) (x : SubtitleTrack) : SubtitleTrack :=
  if (x.markerEntry, x.markerReel) = reel then x
  else { x with current := x.next, next := none, markerEntry := reel.1, markerReel := reel.2 }

/-- Hand the CURRENT table's pending defects to the open record (R134). -/
def State.handDefects (s : State) (t : Track) : State :=
  match (s.subs.track t).current with
  | none => s
  | some c =>
    (s.setAcct (s.acct.subtitleDefects c.entry c.defects)).modifyTrack t fun x =>
      { x with current := some { c with defects := 0 } }

/-- A reel start: handover, then the pending defects of CURRENT (R129, R134). -/
def State.subtitleReelStart (s : State) (t : Track) : State :=
  (s.modifyTrack t (SubtitleTrack.handover s.reelInPlay)).handDefects t

/-- Track, entry and reel of a table in a fault detail (R135). -/
def tableDetail (t : Track) (entry reel : Nat) : List Byte := t.code :: (beBytes 1 entry ++ beBytes 1 reel)

/-- Offer the drops of a table, one by one in record order (R135). -/
def State.offerDrops (s : State) (t : Track) (entry reel : Nat) (drops : List (FaultCause × Nat)) : State :=
  drops.foldl (fun s d =>
    s.offer .subtitle (match d.1 with | .region => .region | .beyondReel => .beyondReel | _ => .overflow) d.1
      (tableDetail t entry reel ++ beBytes 4 d.2)) s

/-- Place a table: in CURRENT, in NEXT, or discarded as late (R128); the late discard counts one defect (R134) and is offered
(R135). -/
def State.placeTable (s : State) (t : Track) (table : ReelTable) : State :=
  let play := s.reelInPlay
  let s := s.modifyTrack t (SubtitleTrack.handover play)
  if (table.entry, table.reel) = play then
    let s := s.modifyTrack t fun x => { x with current := some table }
    let s := if s.playing then s.handDefects t else s
    s.checkPriming
  else if reelBefore (table.entry, table.reel) play then
    (s.setAcct (s.acct.subtitleDefects table.entry 1)).offer .subtitle .lost .late (tableDetail t table.entry table.reel)
  else s.modifyTrack t fun x => { x with next := some table }

/-- Whether a table of that reel would be discarded as late (R128). -/
def State.isLate (s : State) (entry reel : Nat) : Bool := reelBefore (entry, reel) s.reelInPlay

/-- A subtitle-lost indication or a malformed payload: a LOST table is offered and placed (R127, R128, R135). When the table also
completes the priming, SUBTITLE_FAULT joins the pending order before SHOW: the manual orders neither the offer nor the report first,
so it is the model's choice (DESIGN CHOICE, log entry 31). -/
def State.deliverLost (s : State) (t : Track) (entry reel : Nat) (cause : LossCause) : State :=
  let s := if s.isLate entry reel then s else s.offer .subtitle .lost cause.fault (tableDetail t entry reel)
  s.placeTable t (ReelTable.missing entry reel)

/-- The delivery of an opened subtitle unit: examined, converted, sorted and placed in one event (R124 to R128). Its drops are offered
before the table is placed and its priming reported: the model's choice (DESIGN CHOICE, log entry 31). -/
def State.deliverUnit (s : State) (t : Track) (entry reel : Nat) (payload : List Byte) : State :=
  match readSubtitleUnit payload, s.entryAt entry with
  | some (rate, events), some e =>
    let (kept, drops) := admitEvents t e.editRate rate (e.reelDuration reel) 0 events
    let table : ReelTable :=
      { entry := entry, reel := reel, lost := false,
        events := (sortByInFrame kept).map (SubtitleEvent.shift (e.reelStart reel)), defects := drops.length }
    (s.offerDrops t entry reel drops).placeTable t table
  | _, _ => s.deliverLost t entry reel .payload

/-! ### Sending (R130, R131) -/

/-- Send a record on a track's output (R119, R120). -/
def State.sendSubtitle (s : State) (t : Track) (r : SubtitleRecord) : State :=
  match t with
  | .main => s.setPorts { s.ports with overlay := s.ports.overlay ++ [r] }
  | .assist => s.setPorts { s.ports with assist := s.ports.assist ++ [r] }

/-- The send slot of an event under a lead (R130). -/
def SubtitleEvent.sendSlot (lead : Nat) (e : SubtitleEvent) : Nat := e.inFrame - lead

/-- Send an event of entry `i`: a CUT when its region is still occupied beyond its in-frame, then SHOW (R131). -/
def State.sendEvent (s : State) (t : Track) (i : Nat) (e : SubtitleEvent) : State :=
  let occupant := ((s.subs.track t).regions[e.region]?).join
  let s := if occupant.any fun o => e.inFrame < o.outFrame then s.sendSubtitle t (.cut i e.region e.inFrame) else s
  let s := s.sendSubtitle t (.present i { e with sent := true })
  s.modifyTrack t fun x =>
    { x with regions := updateAt (fun _ => some { entry := i, number := e.number, inFrame := e.inFrame, outFrame := e.outFrame })
                          e.region x.regions }

/-- The unsent events of a table that are due at frame `f` and whose span has not passed (R130). -/
def ReelTable.toSend (lead f : Nat) (c : ReelTable) : List SubtitleEvent :=
  c.events.filter fun e => !e.sent && e.sendSlot lead ≤ f && f < e.outFrame

/-- Mark the events of a table whose send slot is at or below frame `f` as sent (R123, R130). -/
def ReelTable.markDue (lead f : Nat) (c : ReelTable) : ReelTable :=
  { c with events := c.events.map fun e => if e.sendSlot lead ≤ f then { e with sent := true } else e }

/-- A place tested at the slot start of frame `f` of entry `i`: its due events, when it holds a table of that entry. -/
def dueEvents (i lead f : Nat) (place : Option ReelTable) : List SubtitleEvent :=
  match place with
  | some c => if c.entry = i then c.toSend lead f else []
  | none => []

/-- A place after its due events were tested. -/
def markPlace (i lead f : Nat) (place : Option ReelTable) : Option ReelTable :=
  place.map fun c => if c.entry = i then c.markDue lead f else c

/-- The slot start of frame `f` of entry `i` for one track: due events of CURRENT, then of NEXT, in table order (R130). -/
def State.subtitleTrackSlot (s : State) (t : Track) (i f : Nat) : State :=
  let x := s.subs.track t
  if x.enabled then
    let due := dueEvents i x.lead f x.current ++ dueEvents i x.lead f x.next
    let s := s.modifyTrack t fun x => { x with current := markPlace i x.lead f x.current, next := markPlace i x.lead f x.next }
    due.foldl (fun s e => s.sendEvent t i e) s
  else s

/-- The slot start of frame `f` of entry `i` for the Subtitle Engine (R130). -/
def State.subtitleSlotStart (s : State) (i f : Nat) : State := (s.subtitleTrackSlot .main i f).subtitleTrackSlot .assist i f

/-! ### Enable, entry start, arming, stopping (R122, R123, R131, R132) -/

/-- Every region empty. -/
def SubtitleTrack.vacate (x : SubtitleTrack) : SubtitleTrack := { x with regions := x.regions.map fun _ => none }

/-- An entry start empties the occupancy of both tracks (R131). -/
def State.subtitleEntryStart (s : State) : State :=
  s.setSubs { main := s.subs.main.vacate, assist := s.subs.assist.vacate }

/-- A track's enable changes, or not (R122, R123). -/
def State.enableSubtitle (s : State) (t : Track) (on : Bool) : State :=
  let x := s.subs.track t
  if x.enabled = on then s
  else if on then
    let mark (p : Option ReelTable) : Option ReelTable := if s.playing then markPlace s.tl.entry x.lead s.tl.frame p else p
    s.modifyTrack t fun x => { x with enabled := true, current := mark x.current, next := mark x.next }
  else
    (s.sendSubtitle t .clearAll).modifyTrack t fun x => { x.vacate with enabled := false }

/-- Tables discarded and occupancy emptied, on both tracks (R132). -/
def State.discardTables (s : State) : State :=
  let clear (x : SubtitleTrack) : SubtitleTrack := { x.vacate with current := none, next := none }
  s.setSubs { main := clear s.subs.main, assist := clear s.subs.assist }

/-- SHOW ARM accepted: tables discarded, occupancy emptied, marker (0, 0) (R132). -/
def State.armSubtitles (s : State) : State :=
  let s := s.discardTables
  let home (x : SubtitleTrack) : SubtitleTrack := { x with markerEntry := 0, markerReel := 0 }
  s.setSubs { main := home s.subs.main, assist := home s.subs.assist }

/-- Entry into STOPPING: CLEAR ALL on both outputs, tables discarded (R37, R132). -/
def State.stopSubtitles (s : State) : State :=
  ((s.discardTables).sendSubtitle .main .clearAll).sendSubtitle .assist .clearAll

/-! ### Requests (R121, R136) -/

/-- SUBTITLE SET (R121 to R123); a change of an enable lets the priming condition be evaluated (R31). -/
def ownerSubtitleSet (p : List Byte) (s : State) : Answer :=
  if s.pwr.state ≠ .active then s.refuse .notActive
  else if p.length ≠ 3 then s.refuse .badLength
  else match readTrack (byteAt p 0), readFlag (byteAt p 1) with
    | some t, some on =>
      if 8 < byteAt p 2 then s.refuse .badField
      else
        let changed := (s.subs.track t).enabled ≠ on
        let s := (s.modifyTrack t fun x => { x with lead := byteAt p 2 }).enableSubtitle t on
        (if changed then s.checkPriming else s).ok
    | _, _ => s.refuse .badField

/-- SUBTITLE SET (R121). -/
def execSubtitleSet (tag : Byte) (payload : List Byte) (s : State) : Host.Outcome State Fault Refusal :=
  request 50 ownerSubtitleSet tag payload s

/-- A place as SUBTITLE QUERY returns it: entry, reel, status, event count, unsent events and pending defects (R136). The table status
has a code of R185 for absence, so an absent table is zeros throughout, without presence bytes (R188, log entry 11). -/
def placeBytes : Option ReelTable → List Byte
  | none => List.replicate 9 0
  | some c =>
    beBytes 1 c.entry ++ beBytes 1 c.reel ++ [if c.lost then 2 else 1] ++ beBytes 2 c.events.length ++
      beBytes 2 (c.events.countP fun e => !e.sent) ++ beBytes 2 c.defects

/-- A region's occupant or its emptiness (R136). -/
def occupantBytes : Option Occupant → List Byte
  | none => 0 :: List.replicate 12 0
  | some o => 1 :: (beBytes 4 o.number ++ beBytes 4 o.inFrame ++ beBytes 4 o.outFrame)

/-- One track as SUBTITLE QUERY returns it (R136). -/
def SubtitleTrack.bytes (x : SubtitleTrack) : List Byte :=
  flagByte x.enabled :: (beBytes 1 x.lead ++ beBytes 1 x.markerEntry ++ beBytes 1 x.markerReel ++ placeBytes x.current ++
    placeBytes x.next ++ x.regions.flatMap occupantBytes)

/-- SUBTITLE QUERY (R136). -/
def ownerSubtitleQuery (p : List Byte) (s : State) : Answer :=
  if s.pwr.state ≠ .active then s.refuse .notActive
  else bare (fun s => s.ok (s.subs.main.bytes ++ s.subs.assist.bytes)) p s

/-- SUBTITLE QUERY (R136). -/
def execSubtitleQuery (tag : Byte) (payload : List Byte) (s : State) : Host.Outcome State Fault Refusal :=
  request 51 ownerSubtitleQuery tag payload s

end Sys2Proof.Machine
end

