-- ==== Sys2Proof/Machine/Intake.lean ====
section
/-!
DEFINITION. The Intake Engine (chapter 4): the fetch sweep, the storage link's replies and timeouts, opening a unit, losses, takes
at the slot start, purge, and the commands STORAGE_DATA, STORAGE_ERROR, STORAGE_RECORD_DISCARD, STORAGE_LINK_IDLE,
STORAGE_TIMEOUT and SWEEP_VISIT.
-/
namespace Sys2Proof.Machine

/-! ### Queues and cursors (R67, R68) -/

/-- Replace a staging queue. -/
def Intake.setQueue (x : Intake) (q : QueueId) (l : List QueueEntry) : Intake :=
  match q with
  | .pq => { x with pq := l }
  | .sq0 => { x with sq0 := l }
  | .sq1 => { x with sq1 := l }

/-- A queue's cursor. -/
def Intake.cursor (x : Intake) : QueueId → Option Pos
  | .pq => x.pqCursor
  | .sq0 => x.sq0Cursor
  | .sq1 => x.sq1Cursor

/-- Replace a queue's cursor. -/
def Intake.setCursor (x : Intake) (q : QueueId) (c : Option Pos) : Intake :=
  match q with
  | .pq => { x with pqCursor := c }
  | .sq0 => { x with sq0Cursor := c }
  | .sq1 => { x with sq1Cursor := c }

/-- Capacity of a queue (R67). -/
def QueueId.capacity : QueueId → Nat
  | .pq => Config.pictureCapacity
  | .sq0 | .sq1 => Config.soundCapacity

/-- The first position a queue serves at or after an entry index (R68). -/
def Programme.firstServed (p : Programme) (q : QueueId) (i : Nat) : Option Pos :=
  ((indexed p.entries).find? fun (j, e) => i ≤ j && q.serves e).map fun (j, _) => { entry := j, reel := 0, unit := 0 }

/-- The position a queue serves after a position, absent past the last (R68). -/
def Programme.after (p : Programme) (q : QueueId) (x : Pos) : Option Pos :=
  match p.entries[x.entry]? with
  | none => none
  | some e =>
    if x.unit + 1 < e.reelDuration x.reel then some { x with unit := x.unit + 1 }
    else if x.reel + 1 < e.reels.length then some { x with reel := x.reel + 1, unit := 0 }
    else p.firstServed q (x.entry + 1)

/-- The position a queue serves after a position, in the held programme. -/
def State.posAfter (s : State) (q : QueueId) (x : Pos) : Option Pos := s.ctl.programme.bind fun p => p.after q x

/-- SHOW ARM accepted: FETCHING, with empty queues and list and each cursor at its first position (R68, R80). -/
def State.armIntake (s : State) : State :=
  let first (q : QueueId) : Option Pos := s.ctl.programme.bind fun p => p.firstServed q 0
  s.setIntake { s.intake with
    mode := .fetching, pq := [], sq0 := [], sq1 := [], requests := [], pqCursor := first .pq, sq0Cursor := first .sq0,
    sq1Cursor := first .sq1 }

/-- A purge: queues, list and slots emptied, cursors ENDED, the sweep back at PQ, Intake IDLE; the sequence counter is kept
(R64, R79). -/
def State.purge (s : State) : State :=
  s.setIntake { s.intake with
    mode := .idle, pq := [], sq0 := [], sq1 := [], requests := [], pqCursor := none, sq0Cursor := none, sq1Cursor := none,
    slots := s.intake.slots.map fun _ => none, station := .pq }

/-! ### Owners of a storage request -/

/-- Change the queue entry at a position. -/
def Intake.modifyEntry (x : Intake) (q : QueueId) (pos : Pos) (f : QueueEntry → QueueEntry) : Intake :=
  x.setQueue q ((x.queue q).map fun e => if e.pos = pos then f e else e)

/-- Whether a subtitle request is that of a track and reel. -/
def SubtitleRequest.isFor (t : Track) (entry reel : Nat) (r : SubtitleRequest) : Bool :=
  r.track = t && r.entry = entry && r.reel = reel

/-- Change the subtitle request of a track and reel. -/
def Intake.modifyRequest (x : Intake) (t : Track) (entry reel : Nat) (f : SubtitleRequest → SubtitleRequest) : Intake :=
  { x with requests := x.requests.map fun r => if r.isFor t entry reel then f r else r }

/-- Free a storage slot (R64). -/
def Intake.freeSlot (x : Intake) (i : Nat) : Intake := { x with slots := updateAt (fun _ => none) i x.slots }

/-- The storage failures and the re-read flag of an owner (R67, R70). -/
def Intake.attempts (x : Intake) : Owner → Option (Nat × Bool)
  | .queue q pos => ((x.queue q).find? fun e => e.pos = pos).map fun e => (e.failures, e.reread)
  | .subtitle t entry reel => (x.requests.find? fun r => r.isFor t entry reel).map fun r => (r.failures, r.reread)

/-- An owner awaits re-issue, with the failures and re-read flag given (R72, R73). -/
def Intake.reissue (x : Intake) (o : Owner) (failures : Nat) (reread : Bool) : Intake :=
  match o with
  | .queue q pos =>
    x.modifyEntry q pos fun e => { e with status := .reserved, slot := none, failures := failures, reread := reread }
  | .subtitle t entry reel =>
    x.modifyRequest t entry reel fun r => { r with status := .awaiting, failures := failures, reread := reread }

/-! ### Delivery of subtitles (R71) -/

/-- Whether a reel lies within the delivery window, or has passed (R71). -/
def State.deliverable (s : State) (entry reel : Nat) : Bool :=
  let last := (s.followingReel s.reelInPlay).getD s.reelInPlay
  !reelBefore last (entry, reel)

/-- Deliver a HELD request to the Subtitle Engine (R71). -/
def State.deliver (s : State) (r : SubtitleRequest) : State :=
  match r.status with
  | .opened payload => s.deliverUnit r.track r.entry r.reel payload
  | .lost cause => s.deliverLost r.track r.entry r.reel cause
  | .awaiting | .inFlight _ => s

/-- Whether a request is HELD. -/
def SubtitleRequest.held (r : SubtitleRequest) : Bool :=
  match r.status with
  | .opened _ | .lost _ => true
  | .awaiting | .inFlight _ => false

/-- The test of HELD requests: each one within the window is delivered, in list order, and leaves the list (R71). -/
def State.deliverHeld (s : State) : State :=
  let due (r : SubtitleRequest) : Bool := r.held && s.deliverable r.entry r.reel
  let ready := s.intake.requests.filter due
  let s := s.setIntake { s.intake with requests := s.intake.requests.filter fun r => !due r }
  ready.foldl State.deliver s

/-! ### Outcomes of a request (R63, R72 to R75) -/

/-- An owner becomes LOST: the loss is offered to the Intake capture and reported (R72 to R75). INTAKE_FAULT so joins the pending order
before the SHOW of a priming that the loss completes, and before the SUBTITLE_FAULT of a lost request delivered in the same event
(R71): the manual puts neither first, so the orders are the model's choice (DESIGN CHOICE, log entry 31). -/
def State.lose (s : State) (o : Owner) (cause : LossCause) (detail : List Byte) : State :=
  match o with
  | .queue q pos =>
    ((s.setIntake (s.intake.modifyEntry q pos fun e => { e with status := .lost cause, slot := none })).offer .intake .lost
      cause.fault detail).checkPriming
  | .subtitle t entry reel =>
    ((s.setIntake (s.intake.modifyRequest t entry reel fun r => { r with status := .lost cause })).offer .intake .lost
      cause.fault detail).deliverHeld

/-- An owner's unit is opened: READY, or HELD with the payload (R63, R71, R75). -/
def State.opened (s : State) (o : Owner) (data : List Byte) : State :=
  match o with
  | .queue q pos =>
    (s.setIntake (s.intake.modifyEntry q pos fun e => { e with status := .ready data, slot := none })).checkPriming
  | .subtitle t entry reel =>
    (s.setIntake (s.intake.modifyRequest t entry reel fun r => { r with status := .opened data })).deliverHeld

/-- Reel index and unit number of an owner, as a fault detail (R74). -/
def Owner.detail : Owner → List Byte
  | .queue _ pos => beBytes 1 pos.reel ++ beBytes 4 pos.unit
  | .subtitle _ _ reel => beBytes 1 reel ++ beBytes 4 0

/-- The entry an owner's unit belongs to. -/
def Owner.entry : Owner → Nat
  | .queue _ pos => pos.entry
  | .subtitle _ entry _ => entry

/-- A storage failure: a retry below 3 failures, else LOST with cause STORAGE (R72). -/
def State.storageFailure (s : State) (o : Owner) : State :=
  match s.intake.attempts o with
  | none => s
  | some (failures, reread) =>
    if failures < 3 then s.setIntake (s.intake.reissue o (failures + 1) reread) else s.lose o .storage o.detail

/-- An integrity mismatch: one re-read, then LOST with cause INTEGRITY (R73). -/
def State.integrityMismatch (s : State) (o : Owner) : State :=
  match s.intake.attempts o with
  | none => s
  | some (failures, reread) =>
    if reread then s.lose o .integrity o.detail else s.setIntake (s.intake.reissue o failures true)

/-! ### Essence units (R61 to R63) -/

/-- An essence unit as read from storage: the fields of its header and its payload (R61, section 12.5). -/
structure Unit where
  kind : Nat
  encrypted : Bool
  number : Nat
  keyId : Id
  counterStart : BitVec 64
  tag : Id
  payload : List Byte
deriving DecidableEq, Repr

/-- Read the header of a unit; nothing when the marker, the flags or the lengths are inconsistent (R61, R62). -/
def readUnit (bs : List Byte) : Option Unit :=
  let flags := byteAt bs 5
  let encrypted := flags = 3
  let header := if encrypted then 54 else 14
  if bs.length < header || field bs 0 4 ≠ 0xE41655AA || (flags ≠ 0 && flags ≠ 3) || field bs 10 4 ≠ bs.length - header then none
  else
    some { kind := byteAt bs 4, encrypted := encrypted, number := field bs 6 4, keyId := idField bs 14,
           counterStart := BitVec.ofNat 64 (field bs 30 8), tag := idField bs 38, payload := bs.drop header }

/-- Track kind of an owner's unit (R62). -/
def Owner.kind : Owner → TrackKind
  | .queue .pq _ => .picture
  | .queue _ _ => .sound
  | .subtitle _ _ _ => .subtitle

/-- The payload lengths admitted for an owner's unit (the table of R62). -/
def Owner.admits (o : Owner) (e : Entry) (n : Nat) : Bool :=
  match o with
  | .queue .pq _ => 1 ≤ n && n ≤ 2097152
  | .queue .sq0 _ => n = e.rate.perFrame e.editRate * e.mainChannels * 3
  | .queue .sq1 _ => n = e.rate.perFrame e.editRate * e.assistChannels * 3
  | .subtitle _ _ _ => 1 ≤ n && n ≤ 262144

/-- Whether a unit is consistent with a request (R62). -/
def Unit.consistent (u : Unit) (r : StorageRequest) (e : Entry) : Bool :=
  u.kind = r.owner.kind.code.toNat && u.number = r.unit && r.owner.admits e u.payload.length

/-- The plaintext of a payload: each byte combined with the key stream of counter mode (R63). -/
def decrypt (contentKey : Id) (counterStart : BitVec 64) (payload : List Byte) : List Byte :=
  (indexed payload).map fun (i, b) => b ^^^ Config.keyStream contentKey counterStart i

/-- A DATA reply for a request whose slot has been freed (R62, R63). -/
def State.openData (s : State) (r : StorageRequest) (unit : List Byte) : State :=
  match readUnit unit, s.entryAt r.owner.entry with
  | some u, some e =>
    if !u.consistent r e then s.lose r.owner .format r.owner.detail
    else if !u.encrypted then s.opened r.owner u.payload
    else match s.lookup u.keyId e.composition r.owner.kind with
      | .error n => s.lose r.owner .key (idBytes u.keyId ++ beBytes 1 n)
      | .ok (contentKey, checkKey) =>
        let plain := decrypt contentKey u.counterStart u.payload
        if Config.keyedCheck checkKey plain = u.tag then s.opened r.owner plain else s.integrityMismatch r.owner
  | _, _ => s.lose r.owner .format r.owner.detail

/-! ### Commands of the storage link (R65, R66, R187) -/

/-- The occupied slot that holds a sequence number, with its request (R65). -/
def Intake.slotOf (x : Intake) (seq : BitVec 16) : Option (Nat × StorageRequest) :=
  (indexed x.slots).findSome? fun
    | (i, some r) => if r.seq = seq then some (i, r) else none
    | _ => none

/-- Whether Intake reads the records that come in on SDI: it runs, and is not waiting for the link to be idle (R80, R187). -/
def State.readsStore (s : State) : Bool := s.pwr.state = .active && !s.intake.ignoring

/-- A DATA record matched to its slot, which it frees; without a match it is discarded (R65). -/
def State.storageData (s : State) (seq : BitVec 16) (unit : List Byte) : State :=
  if s.readsStore then
    match s.intake.slotOf seq with
    | some (i, r) => (s.setIntake (s.intake.freeSlot i)).openData r unit
    | none => s
  else s

/-- STORAGE_DATA (R62, R63, R65). -/
def execStorageData (seq : BitVec 16) (unit : List Byte) (s : State) : Host.Outcome State Fault Refusal :=
  .next (s.storageData seq unit).endEvent

/-- Whether the ERROR code is NOT_FOUND, MEDIA or BUSY (section 12.5). -/
def errorCode (code : Byte) : Bool := code = 1 || code = 2 || code = 3

/-- An ERROR record is a storage failure of its slot's owner; an unknown code discards the record and SDI is then ignored
(R65, R72, R187). -/
def State.storageError (s : State) (seq : BitVec 16) (code : Byte) : State :=
  if s.readsStore then
    if errorCode code then
      match s.intake.slotOf seq with
      | some (i, r) => (s.setIntake (s.intake.freeSlot i)).storageFailure r.owner
      | none => s
    else s.setIntake { s.intake with ignoring := true }
  else s

/-- STORAGE_ERROR (R65, R72). -/
def execStorageError (seq : BitVec 16) (code : Byte) (s : State) : Host.Outcome State Fault Refusal :=
  .next (s.storageError seq code).endEvent

/-- Whether the part discards a record with these first bytes: a type other than 81h and 82h, or an ERROR with an unknown code
(R187). -/
def discardsRecord (record : List Byte) : Bool :=
  match record with
  | [] => false
  | t :: rest => (t ≠ 0x81 && t ≠ 0x82) || (t = 0x82 && 3 ≤ rest.length && !errorCode (BitVec.ofNat 8 (byteAt rest 2)))

/-- STORAGE_RECORD_DISCARD: the record is discarded, and SDI is ignored until the link is idle (R187). -/
def execStorageRecordDiscard (record : List Byte) (s : State) : Host.Outcome State Fault Refusal :=
  .next (if s.readsStore && discardsRecord record then s.setIntake { s.intake with ignoring := true } else s)

/-- STORAGE_LINK_IDLE: Intake reads records again (R187). -/
def execStorageLinkIdle (s : State) : Host.Outcome State Fault Refusal :=
  .next (s.setIntake { s.intake with ignoring := false })

/-- The expiry of a slot's timeout: the slot is freed and its owner suffers a storage failure (R66). -/
def State.storageTimeout (s : State) (i : Nat) : State :=
  match s.intake.slots[i]? with
  | some (some r) => if r.timer = 0 then (s.setIntake (s.intake.freeSlot i)).storageFailure r.owner else s
  | _ => s

/-- STORAGE_TIMEOUT (R66). -/
def execStorageTimeout (slot : Fin 4) (s : State) : Host.Outcome State Fault Refusal :=
  .next (s.storageTimeout slot.val).endEvent

/-! ### The sweep (R64, R69, R70) -/

/-- The queue of a station, absent for the subtitle list. -/
def Station.queue : Station → Option QueueId
  | .pq => some .pq
  | .sq0 => some .sq0
  | .sq1 => some .sq1
  | .subtitles => none

/-- The station after a station (R69). -/
def Station.next : Station → Station
  | .pq => .sq0
  | .sq0 => .sq1
  | .sq1 => .subtitles
  | .subtitles => .pq

/-- The reel record at an entry and reel index of the held programme. -/
def State.reelAt (s : State) (entry reel : Nat) : Option Reel := (s.entryAt entry).bind fun e => e.reels[reel]?

/-- The subtitle requests that entering a reel adds: one for each enabled track the reel holds a track id for (R70). MAIN joins the list
before ASSIST: the manual gives no order of the two, so it is the model's choice (DESIGN CHOICE, log entry 30). -/
def State.requestsFor (s : State) (entry reel : Nat) : List SubtitleRequest :=
  match s.reelAt entry reel with
  | none => []
  | some r => [Track.main, Track.assist].filterMap fun t =>
      if (s.subs.track t).enabled then
        (r.subtitle t).map fun id =>
          { track := t, entry := entry, reel := reel, trackId := id, status := .awaiting, failures := 0, reread := false }
      else none

/-- The track id a queue reads of a reel (R22, R67). -/
def Reel.trackId (r : Reel) : QueueId → Nat
  | .pq => r.picture
  | .sq0 => r.mainSound
  | .sq1 => r.assistSound.getD 0

/-- Whether an entry awaits re-issue (R67, R72). -/
def QueueEntry.awaits (e : QueueEntry) : Bool := e.status = .reserved && e.slot.isNone

/-- What a station would issue on a visit. -/
inductive Issue where
  | retry (queue : QueueId) (pos : Pos)
  | fresh (queue : QueueId) (pos : Pos)
  | subtitle (track : Track) (entry reel trackId : Nat)
deriving DecidableEq, Repr

/-- The subtitle requests a new request at a position adds: those of the reel that the PQ cursor enters at unit 0 (R70). -/
def State.entering (s : State) (q : QueueId) (pos : Pos) : List SubtitleRequest :=
  if q = .pq ∧ pos.unit = 0 then s.requestsFor pos.entry pos.reel else []

/-- A queue station's work: the oldest entry awaiting re-issue, else a new request at the cursor while there is room (R69). -/
def State.queueWork (s : State) (q : QueueId) : Option Issue :=
  match (s.intake.queue q).find? QueueEntry.awaits with
  | some e => some (.retry q e.pos)
  | none =>
    match s.intake.cursor q with
    | none => none
    | some pos =>
      if (s.intake.queue q).length < q.capacity &&
          s.intake.requests.length + (s.entering q pos).length ≤ Config.subtitleListCapacity then some (.fresh q pos)
      else none

/-- A station's work, absent when it has none (R69). -/
def State.stationWork (s : State) (st : Station) : Option Issue :=
  match st.queue with
  | some q => s.queueWork q
  | none =>
    (s.intake.requests.find? fun r => r.status = .awaiting).map fun r => .subtitle r.track r.entry r.reel r.trackId

/-- Issue a request into a free slot: it takes the sequence counter's value, the counter advances and READ is sent (R64). -/
def State.issue (s : State) (slot : Nat) (owner : Owner) (trackId unit : Nat) : State :=
  let r : StorageRequest :=
    { seq := s.intake.seq, owner := owner, trackId := trackId, unit := unit, timer := Config.storageTimeoutMs }
  (s.setPorts { s.ports with storage := s.ports.storage ++ [{ seq := r.seq, trackId := trackId, unit := unit }] }).setIntake
    { s.intake with slots := updateAt (fun _ => some r) slot s.intake.slots, seq := s.intake.seq + 1 }

/-- Track id of a queue's unit at a position. -/
def State.trackIdAt (s : State) (q : QueueId) (pos : Pos) : Nat :=
  ((s.reelAt pos.entry pos.reel).map fun r => r.trackId q).getD 0

/-- Issue a station's work into a free slot (R64, R67, R69, R70). -/
def State.performIssue (s : State) (slot : Nat) : Issue → State
  | .retry q pos =>
    (s.setIntake (s.intake.modifyEntry q pos fun e => { e with slot := some slot })).issue slot (.queue q pos)
      (s.trackIdAt q pos) pos.unit
  | .fresh q pos =>
    let e : QueueEntry := { pos := pos, status := .reserved, failures := 0, reread := false, slot := some slot }
    let x := (s.intake.setQueue q (s.intake.queue q ++ [e])).setCursor q (s.posAfter q pos)
    (s.setIntake { x with requests := x.requests ++ s.entering q pos }).issue slot (.queue q pos) (s.trackIdAt q pos) pos.unit
  | .subtitle t entry reel trackId =>
    (s.setIntake (s.intake.modifyRequest t entry reel fun r => { r with status := .inFlight slot })).issue slot
      (.subtitle t entry reel) trackId 0

/-- Whether some station has work (R69). -/
def State.anyWork (s : State) : Bool :=
  [Station.pq, .sq0, .sq1, .subtitles].any fun st => (s.stationWork st).isSome

/-- One visit of the sweep: the station at the pointer issues at most one request, and the pointer moves on. The sweep waits while
no slot is free or no station has work (R69). -/
def State.sweepVisit (s : State) : State :=
  match indexWhere Option.isNone s.intake.slots with
  | none => s
  | some slot =>
    if s.intake.mode = .fetching && s.anyWork then
      let st := s.intake.station
      let s' := match s.stationWork st with
        | some w => s.performIssue slot w
        | none => s
      s'.setIntake { s'.intake with station := st.next }
    else s

/-- SWEEP_VISIT (R64, R69, R70). -/
def execSweepVisit (s : State) : Host.Outcome State Fault Refusal := .next s.sweepVisit.endEvent

/-! ### Takes at the slot start (R76, R77) -/

/-- What a consumer is handed at a take: the unit, a lost indication or a late indication (R76). -/
inductive Take where
  | ready (data : List Byte)
  | lost (cause : LossCause)
  | late
deriving DecidableEq, Repr

/-- The LATE cause of a queue (R76). -/
def QueueId.lateCause : QueueId → FaultCause
  | .pq => .picture
  | .sq0 => .mainSound
  | .sq1 => .assistSound

/-- The position of frame `f` of entry `i` in the held programme: reel and unit by R(r) (R76). -/
def State.posOf (s : State) (i f : Nat) : Pos :=
  match s.entryAt i with
  | none => { entry := i, reel := 0, unit := f }
  | some e => { entry := i, reel := e.reelOf f, unit := f - e.reelStart (e.reelOf f) }

/-- What the head of a queue hands over at a take of a position, and the queue and slots after it (R76). -/
def Intake.takeHead (x : Intake) (q : QueueId) (pos : Pos) : Take × Intake :=
  match x.queue q with
  | [] => (.late, x)
  | e :: rest =>
    if e.pos = pos then
      let y := x.setQueue q rest
      match e.status with
      | .ready data => (.ready data, y)
      | .lost cause => (.lost cause, y)
      | .reserved => (.late, match e.slot with
          | some i => y.freeSlot i
          | none => y)
    else (.late, x)

/-- The cursor moves past a taken position it was at or before (R68, R76). -/
def State.passCursor (s : State) (q : QueueId) (pos : Pos) : State :=
  match s.intake.cursor q with
  | some c => if pos.before c then s else s.setIntake (s.intake.setCursor q (s.posAfter q pos))
  | none => s

/-- The take of frame `f` of entry `i` from a queue: a late one is offered to the Intake capture (R76). -/
def State.take (s : State) (q : QueueId) (i f : Nat) : Take × State :=
  let pos := s.posOf i f
  let (t, x) := s.intake.takeHead q pos
  let s := (s.setIntake x).passCursor q pos
  (t, if t = .late then s.offer .intake .late q.lateCause (beBytes 1 pos.reel ++ beBytes 4 pos.unit) else s)

/-- The warning of R77: the head of the queue is LOST and holds the position of frame `f + 1` of the same entry. -/
def State.warning (s : State) (q : QueueId) (i f : Nat) : Bool :=
  match s.intake.queue q, s.entryAt i with
  | e :: _, some en =>
    (match e.status with | .lost _ => true | _ => false) && f + 1 < en.total && e.pos = s.posOf i (f + 1)
  | _, _ => false

end Sys2Proof.Machine
end

