-- ==== Sys2Proof/Machine/Sound.lean ====
section
/-!
DEFINITION. The Sound Engine (chapter 5): fades, the mix, delay lines and delay changes, the work at entry start, slot start, START,
STOPPING and READY, the requests MAP SET, FADE, DELAY SET and SOUND QUERY, and the completions of fades and switch ramps.
-/
namespace Sys2Proof.Machine

/-! ### Fades (R92) -/

/-- Begin a fade from the current value to a target over `n` samples; it replaces a fade in flight (R92). -/
def Gain.fade (target n : Nat) (g : Gain) : Gain :=
  { g with target := target, ramp := some { start := g.cur, target := target, length := n, step := 0 } }

/-- The value after step `k`: M0 + trunc((G - M0) × k ÷ N), and G from step N on (R92). -/
def Ramp.value (r : Ramp) (k : Nat) : Nat :=
  if r.length ≤ k then r.target
  else ((r.start : Int) + (((r.target : Int) - r.start) * k).tdiv r.length).toNat

/-- Whether a fade has taken its last step; a fade with N = 0 takes one (R92). -/
def Ramp.finished (r : Ramp) : Bool := 1 ≤ r.step && r.length ≤ r.step

/-- One step of a gain in a sample period; a fade past its last step stays at its target (R92). -/
def Gain.step (g : Gain) : Gain :=
  match g.ramp with
  | none => g
  | some r => if r.finished then g else { g with cur := r.value (r.step + 1), ramp := some { r with step := r.step + 1 } }

/-- Whether a gain's fade has taken its last step and not ended yet. -/
def Gain.due (g : Gain) : Bool := g.ramp.any Ramp.finished

/-- A gain has no fade that still steps. -/
def Gain.settled (g : Gain) : Bool := g.ramp.all Ramp.finished

/-- A fade that has taken its last step ends (R92). -/
def Gain.finish (g : Gain) : Gain := if g.due then { g with ramp := none } else g

/-- Steps left of a gain's fade, 0 without one (R105). -/
def Gain.stepsLeft (g : Gain) : Nat := (g.ramp.map fun r => r.length - r.step).getD 0

/-- Change the Sound Engine. -/
def State.modifySnd (s : State) (f : Sound → Sound) : State := s.setSnd (f s.snd)

/-- Change one output. -/
def Sound.modifyOutput (o : Nat) (f : Output → Output) (x : Sound) : Sound := { x with outputs := updateAt f o x.outputs }

/-- Begin a fade of a set of host faders over a duration in milliseconds, bounded at 60,000 (R91). -/
def State.startFade (s : State) (set : BitVec 18) (target ms : Nat) : State :=
  let n := s.tl.rate.ofMs (min ms Config.fadeLimitMs)
  s.modifySnd fun x => { x with
    outputs := (indexed x.outputs).map fun (o, y) => if set.getLsbD o then { y with fader := y.fader.fade target n } else y }

/-- Begin a fade of the pause gain over a duration in milliseconds, at the rate in force (R93, R94). -/
def State.fadePause (s : State) (target ms : Nat) : State :=
  s.modifySnd fun x => { x with pause := x.pause.fade target (s.tl.rate.ofMs ms) }

/-! ### Delay changes (R96 to R99) -/

/-- An output's delay in samples before the bound: global delay plus trim, converted at the rate in force (R18, R96). -/
def Sound.rawDelay (x : Sound) (rate : SampleRate) (o : Nat) : Nat :=
  rate.ofUs (x.globalDelay + ((x.outputs[o]?).map Output.trim).getD 0)

/-- The bound of 24,000 samples (R96). -/
def clampDelay (n : Nat) : Nat := min n Config.delayCapacity

/-- The outputs a conversion clamps, in output order, with their unclamped counts (R95, R96). -/
def Sound.clamped (x : Sound) (rate : SampleRate) : List (Nat × Nat) :=
  (indexed x.outputs).filterMap fun (o, _) =>
    if Config.delayCapacity < x.rawDelay rate o then some (o, x.rawDelay rate o) else none

/-- A new delay count reaches an output while the show is RUNNING or PAUSED; `ramp` is 5 ms in samples (R98, R99). -/
def Output.changeDelay (n ramp : Nat) (y : Output) : Output :=
  match y.phase with
  | .steady => if n = y.delay then y else { y with phase := .down, pendingDelay := some n, switch := y.switch.fade 0 ramp }
  | .down | .waiting =>
    if n = y.delay then { y with phase := .up, pendingDelay := none, switch := y.switch.fade Config.unity ramp }
    else { y with pendingDelay := some n }
  | .up => if n = y.delay then y else { y with phase := .down, pendingDelay := some n, switch := y.switch.fade 0 ramp }

/-- Entry into STOPPING resolves a delay change in flight (R99). -/
def Output.resolveDelay (ramp : Nat) (y : Output) : Output :=
  match y.phase with
  | .steady | .up => y
  | .down | .waiting =>
    { y with delay := y.pendingDelay.getD y.delay, pendingDelay := none, phase := .up,
             switch := y.switch.fade Config.unity ramp }

/-- Whether an output waits for its jump: its phase is WAITING, or DOWN with the fade's last step taken (R98). -/
def Output.waits (y : Output) : Bool := y.phase = .waiting || (y.phase = .down && y.switch.due)

/-- The jump of an output in WAITING, at a slot start (R98). -/
def Output.jump (ramp : Nat) (y : Output) : Output :=
  if y.waits then
    { y with delay := y.pendingDelay.getD y.delay, pendingDelay := none, phase := .up,
             switch := (Gain.rest 0).fade Config.unity ramp }
  else y

/-- The switch gain has reached 0: DOWN becomes WAITING (R98). -/
def Output.downComplete (y : Output) : Output :=
  if y.phase = .down && y.switch.due then { y with phase := .waiting, switch := y.switch.finish } else y

/-- The switch gain has reached unity: UP becomes STEADY (R98). -/
def Output.upComplete (y : Output) : Output :=
  if y.phase = .up && y.switch.due then { y with phase := .steady, switch := y.switch.finish } else y

/-- The 5 ms delay change ramp at the rate in force (R98). -/
def State.switchRamp (s : State) : Nat := s.tl.rate.ofMs 5

/-- Offer a clamp to the Sound capture: the lowest clamped output and its unclamped count (R104). -/
def State.offerClamp (s : State) (clamped : List (Nat × Nat)) (cause : FaultCause) : State :=
  match clamped with
  | [] => s
  | (o, n) :: _ => s.offer .sound .delayClamped cause (beBytes 1 o ++ beBytes 2 n)

/-! ### Delay lines (R97) -/

/-- The list without the zeros at its end. -/
def dropZeros : List Int → List Int
  | [] => []
  | a :: l =>
    match dropZeros l with
    | [] => if a = 0 then [] else [a]
    | b :: r => a :: b :: r

/-- A delay line takes a value and discards the oldest of its 24,000 (R97). -/
def pushLine (y : Int) (line : List Int) : List Int := dropZeros ((y :: line).take Config.delayCapacity)

/-- The value that entered `n` sample periods before the latest one, `y`, given the line before it took `y`: with the largest delay it
is the value that the line discards as it takes `y`; values not listed are 0 (R97). -/
def readLine (y : Int) (line : List Int) (n : Nat) : Int := ((y :: line)[n]?).getD 0

/-! ### The mix (R86, R89, R90, R101) -/

/-- The concealment ramp, 1 ms at the rate in force (R101). -/
def State.concealLength (s : State) : Nat := s.tl.rate.ofMs 1

/-- A track's concealment factor at phase `p` of a slot of `n` samples, with ramp length `r` (R101). -/
def SoundTrack.factor (x : SoundTrack) (p n r : Nat) : Nat :=
  if x.previousGap && p < r then Config.unity * (p + 1) / r
  else if x.fadeOutDue && n - r ≤ p then Config.unity - Config.unity * (p - (n - r) + 1) / r
  else Config.unity

/-- The value of channel `c` of `channels` of a track at phase `p`: 0 when absent or in a gap, else scaled by the concealment factor
(R86, R89, R100, R101). -/
def SoundTrack.value (x : SoundTrack) (channels c p n r : Nat) : Int :=
  if c < channels && !x.gap then
    match x.unit with
    | some bs => scaleDown (sample24 bs (3 * (p * channels + c)) * x.factor p n r)
    | none => 0
  else 0

/-- The eighteen source values of this sample period: 0 unless the mode is ADVANCING (R86, R89). -/
def State.sources (s : State) : List Int :=
  (List.range Config.outputCount).map fun c =>
    if s.tl.mode = .advancing then
      if c < 16 then s.snd.main.value s.snd.mainChannels c s.tl.phase s.tl.samplesPerFrame s.concealLength
      else s.snd.assist.value s.snd.assistChannels (c - 16) s.tl.phase s.tl.samplesPerFrame s.concealLength
    else 0

/-- The routed value of an output: the routes' sum, scaled and saturated (R89). -/
def routed (map : List Route) (sources : List Int) (o : Nat) : Int :=
  sat24 (scaleDown (((map.filter fun r => r.output = o).map fun r => (sources[r.source]?.getD 0) * (r.gain : Int)).sum))

/-- An output's effective gain M (R90). -/
def effectiveGain (host pause : Nat) : Nat := host * pause / Config.unity

/-- The fader stage (R90). -/
def faded (m : Int) (gain : Nat) : Int := sat24 (scaleDown (m * gain))

/-- An output's fader stage, delay line and switch in one sample period, its gains already stepped (R90, R97). -/
def Output.play (pause : Nat) (m : Int) (y : Output) : Output :=
  let v := faded m (effectiveGain y.fader.cur pause)
  { y with line := pushLine v y.line, out := scaleDown (readLine v y.line y.delay * y.switch.cur) }

/-- One step of an output's fader and switch gain (R92, R98). -/
def Output.stepGains (y : Output) : Output := { y with fader := y.fader.step, switch := y.switch.step }

/-- One sample period of the Sound Engine: gains step, then the mix, the fader stage, the delay lines and the outputs (R89 to R98). -/
def Sound.samplePeriod (sources : List Int) (x : Sound) : Sound :=
  let pause := x.pause.step
  { x with
    pause := pause
    outputs := (indexed x.outputs).map fun (o, y) => y.stepGains.play pause.cur (routed x.map sources o) }

/-! ### Entry start, slot start, START, STOPPING, READY (R88, R94, R95, R103) -/

/-- An entry start: channel counts copied, fade-out due cleared (R88). -/
def Sound.entryStart (e : Entry) (x : Sound) : Sound :=
  { x with mainChannels := e.mainChannels, assistChannels := e.assistChannels,
           main := { x.main with fadeOutDue := false }, assist := { x.assist with fadeOutDue := false } }

/-- Step 1 of a slot start for one track (R88). -/
def SoundTrack.turn (x : SoundTrack) : SoundTrack := { x with previousGap := x.gap, gap := false, unit := none }

/-- Step 3 of a slot start for one track: the unit held, or the gap (R88). -/
def SoundTrack.hold (t : Take) (x : SoundTrack) : SoundTrack :=
  match t with
  | .ready data => { x with unit := some data }
  | .lost _ | .late => { x with gap := true }

/-- A gap is a sound defect of the entry in play and is offered to the Sound capture (R77, R100, R104). -/
def State.soundGap (s : State) (track : Track) (t : Take) (i : Nat) : State :=
  match t with
  | .ready _ => s
  | .lost cause => (s.setAcct (s.acct.soundDefect i)).offer .sound .gap .lost [track.code, cause.fault.code]
  | .late => (s.setAcct (s.acct.soundDefect i)).offer .sound .gap .late [track.code]

/-- Step 3 of a slot start for a track taken: the unit held, or the gap with its defect and its offer (R77, R88, R100). -/
def State.holdSound (s : State) (track : Track) (t : Take) (i : Nat) : State :=
  (s.modifySnd fun x => match track with
    | .main => { x with main := x.main.hold t }
    | .assist => { x with assist := x.assist.hold t }).soundGap track t i

/-- Install the pending map, if one is held (R87). -/
def Sound.installMap (x : Sound) : Sound :=
  match x.pendingMap with
  | some m => { x with map := m, pendingMap := none }
  | none => x

/-- Steps 2 and 3 of a slot start: the unit of the frame is taken from SQ0 and, with assist channels, from SQ1, and each track taken
holds its unit or is marked a gap, MAIN first. Without assist channels the ASSIST track's flags are cleared (R88). -/
def State.takeSounds (s : State) (i f : Nat) : State :=
  let (main, s) := s.take .sq0 i f
  if s.snd.assistChannels = 0 then (s.holdSound .main main i).modifySnd fun x => { x with assist := .reset }
  else
    let (assist, s) := s.take .sq1 i f
    (s.holdSound .main main i).holdSound .assist assist i

/-- Step 4 of a slot start: each track taken has its fade-out due flag set from the warning of R77 (R88). -/
def State.warnSounds (s : State) (i f : Nat) : State :=
  let main := s.warning .sq0 i f
  let assist := s.snd.assistChannels ≠ 0 && s.warning .sq1 i f
  s.modifySnd fun x => { x with main := { x.main with fadeOutDue := main }, assist := { x.assist with fadeOutDue := assist } }

/-- The slot start of frame `f` of entry `i` for the Sound Engine, in the order of R88. -/
def State.soundSlotStart (s : State) (i f : Nat) : State :=
  let s := s.modifySnd fun x => { x with main := x.main.turn, assist := x.assist.turn }
  let s := (s.takeSounds i f).warnSounds i f
  let ramp := s.switchRamp
  s.modifySnd fun x => { x.installMap with outputs := x.installMap.outputs.map (Output.jump ramp) }

/-- START: the pause gain at unity, the delays converted at the programme's rate and applied at once, the lines cleared when the
rate changes (R95). -/
def State.soundStart (s : State) (oldRate : SampleRate) : State :=
  let rate := s.tl.rate
  let clamped := s.snd.clamped rate
  let changed := oldRate ≠ rate
  let s := s.modifySnd fun x => { x with
    pause := .rest Config.unity
    outputs := (indexed x.outputs).map fun (o, y) =>
      let y := { y with delay := clampDelay (x.rawDelay rate o) }
      if changed then { y with line := [], switch := .rest Config.unity, phase := .steady, pendingDelay := none } else y }
  s.offerClamp clamped .start

/-- Entry into STOPPING: units released, pending map installed, delay changes resolved, the stop fade begun (R94). -/
def State.soundStop (s : State) (ms : Nat) : State :=
  let ramp := s.switchRamp
  (s.modifySnd fun x =>
    let x := x.installMap
    { x with main := { x.main with unit := none }, assist := { x.assist with unit := none },
             outputs := x.outputs.map (Output.resolveDelay ramp) }).fadePause 0 ms

/-- Entry into READY for one output: fades complete, delay changes take effect, the line is emptied (R103). -/
def Output.quiesce (y : Output) : Output :=
  { y with fader := .rest y.fader.target, switch := .rest Config.unity, phase := .steady,
           delay := y.pendingDelay.getD y.delay, pendingDelay := none, line := [], out := 0 }

/-- Entry into READY (R103). -/
def Sound.quiesce (x : Sound) : Sound :=
  { x with running := false, pause := .rest x.pause.target, outputs := x.outputs.map Output.quiesce }

/-- Entry into NIGHT: the outputs stop and drive 0 (R103). -/
def Sound.silence (x : Sound) : Sound := { x with running := false, outputs := x.outputs.map fun y => { y with out := 0 } }

/-- The 32 bits of output `o`'s half of a frame on its data line: 24 bits of the sample, then 8 zero bits; 0 while STOPPED (R85). -/
def Sound.halfFrame (x : Sound) (o : Nat) : BitVec 32 :=
  if x.running then (BitVec.ofInt 24 ((x.outputs[o]?.map Output.out).getD 0)).zeroExtend 32 <<< 8 else 0

/-- One half of a frame at the serial audio output: the level at the frame clock AFS, the periods of the bit clock ABCK, and the
32 bits that each of the data lines ADAT[0] to ADAT[8] carries (R85). -/
structure AudioHalf where
  afs : Bool
  abck : Nat
  adat : List (BitVec 32)
deriving DecidableEq, Repr

/-- The bit clock's periods in half a frame: 32, or none while the outputs are STOPPED and ABCK is held low (R85). -/
def Sound.bitClock (x : Sound) : Nat := if x.running then 32 else 0

/-- The frame of a sample period: AFS low for the first half, in which line k carries output 2k, and high for the second, in which it
carries output 2k + 1. While the outputs are STOPPED both clocks are held low and every line drives 0 (R85). -/
def Sound.audioFrame (x : Sound) : AudioHalf × AudioHalf :=
  let line (second : Nat) (k : Nat) : BitVec 32 := x.halfFrame (2 * k + second)
  ({ afs := false, abck := x.bitClock, adat := (List.range Config.dataLines).map (line 0) },
   { afs := x.running, abck := x.bitClock, adat := (List.range Config.dataLines).map (line 1) })

/-! ### Requests (R87, R91, R96, R105) -/

/-- The routes of a MAP SET payload after its count. -/
def readRoutes : (n : Nat) → (bs : List Byte) → List Route
  | 0, _ => []
  | n + 1, bs =>
    { source := byteAt bs 0, output := byteAt bs 1, gain := field bs 2 2 } :: readRoutes n (bs.drop 4)

/-- The index of the first route with a source or output above 17 (check 3 of R87). -/
def badRoute (routes : List Route) : Option Nat := indexWhere (fun r => 17 < r.source || 17 < r.output) routes

/-- The index of the first route whose pair an earlier route has (check 4 of R87). Where several pairs repeat, the manual does not say
which is the first pair found: the one whose second route comes first is the model's choice (DESIGN CHOICE, log entry 32). -/
def repeatedRoute : (seen : List (Nat × Nat)) → (routes : List Route) → (i : Nat) → Option Nat
  | _, [], _ => none
  | seen, r :: rest, i =>
    if (r.source, r.output) ∈ seen then some i else repeatedRoute ((r.source, r.output) :: seen) rest (i + 1)

/-- MAP SET (R87). -/
def ownerMapSet (p : List Byte) (s : State) : Answer :=
  let n := byteAt p 0
  let routes := readRoutes n (p.drop 1)
  if p.length = 0 || p.length ≠ 1 + 4 * n then s.refuse .badLength
  else if Config.routeCapacity < n then s.refuse .badField
  else match badRoute routes with
    | some i => s.refuse .badField (beBytes 1 i)
    | none =>
      match repeatedRoute [] routes 0 with
      | some i => s.refuse .badField (beBytes 1 i)
      | none =>
        (s.modifySnd fun x =>
          if s.playing then { x with pendingMap := some routes } else { x with map := routes, pendingMap := none }).ok

/-- MAP SET (R87). -/
def execMapSet (tag : Byte) (payload : List Byte) (s : State) : Host.Outcome State Fault Refusal :=
  request 40 ownerMapSet tag payload s

/-- FADE (R91). -/
def ownerFade (p : List Byte) (s : State) : Answer :=
  if s.pwr.state ≠ .active then s.refuse .notActive
  else if p.length ≠ 7 then s.refuse .badLength
  else match readOutputs (field p 0 3) with
    | none => s.refuse .badField
    | some set =>
      if set = 0 then s.refuse .badField
      else
        { state := s.startFade set (field p 3 2) (field p 5 2),
          status := if Config.fadeLimitMs < field p 5 2 then .clamped else .ok, data := [] }

/-- FADE (R91). -/
def execFade (tag : Byte) (payload : List Byte) (s : State) : Host.Outcome State Fault Refusal :=
  request 41 ownerFade tag payload s

/-- The eighteen trims of a DELAY SET payload. -/
def readTrims (p : List Byte) : List Nat := (List.range Config.outputCount).map fun o => field p (4 + 2 * o) 2

/-- Replace the delay settings (R96). -/
def Sound.setDelays (globalDelay : Nat) (trims : List Nat) (x : Sound) : Sound :=
  { x with globalDelay := globalDelay,
           outputs := (indexed x.outputs).map fun (o, y) => { y with trim := (trims[o]?).getD 0 } }

/-- Each output takes its new count: by the switch procedure in RUNNING and PAUSED, at once otherwise (R96). -/
def State.applyDelays (s : State) : State :=
  s.modifySnd fun x => { x with
    outputs := (indexed x.outputs).map fun (o, y) =>
      let n := clampDelay (x.rawDelay s.tl.rate o)
      if s.playing then y.changeDelay n s.switchRamp else { y with delay := n } }

/-- A set of outputs from their numbers. -/
def outputSet (os : List Nat) : BitVec 18 := os.foldl (fun b o => b ||| (1#18 <<< o)) 0

/-- DELAY SET (R96): a field out of range is named in the reply, 255 for the global delay, else the output of the trim. -/
def ownerDelaySet (p : List Byte) (s : State) : Answer :=
  if p.length ≠ 40 then s.refuse .badLength
  else if 250000 < field p 0 4 then s.refuse .badField [255]
  else match indexWhere (fun t => 20000 < t) (readTrims p) with
    | some o => s.refuse .badField (beBytes 1 o)
    | none =>
      let s := s.modifySnd (Sound.setDelays (field p 0 4) (readTrims p))
      let clamped := s.snd.clamped s.tl.rate
      let counts := (List.range Config.outputCount).map fun o => clampDelay (s.snd.rawDelay s.tl.rate o)
      { state := s.applyDelays.offerClamp clamped .delaySet,
        status := if clamped.isEmpty then .ok else .clamped,
        data := beBytes 3 (outputSet (clamped.map Prod.fst)).toNat ++ counts.flatMap (beBytes 2) }

/-- DELAY SET (R96). -/
def execDelaySet (tag : Byte) (payload : List Byte) (s : State) : Host.Outcome State Fault Refusal :=
  request 42 ownerDelaySet tag payload s

/-- Current value, target and remaining steps of a gain (R105). -/
def Gain.bytes (g : Gain) : List Byte := beBytes 2 g.cur ++ beBytes 2 g.target ++ beBytes 4 g.stepsLeft

/-- SOUND QUERY's reply data, in the order of R105. -/
def Sound.bytes (rate : SampleRate) (x : Sound) : List Byte :=
  [if x.running then 0 else 1, rate.code] ++ beBytes 1 x.map.length ++
    x.map.flatMap (fun r => beBytes 1 r.source ++ beBytes 1 r.output ++ beBytes 2 r.gain) ++ [flagByte x.pendingMap.isSome] ++
    x.outputs.flatMap (fun y => y.fader.bytes) ++ x.pause.bytes ++ beBytes 4 x.globalDelay ++
    x.outputs.flatMap (fun y => beBytes 2 y.trim) ++
    x.outputs.flatMap (fun y => beBytes 2 y.delay ++ optBytes 2 y.pendingDelay ++ beBytes 2 y.switch.cur ++ [y.phase.code]) ++
    beBytes 1 x.mainChannels ++ beBytes 1 x.assistChannels

/-- SOUND QUERY (R105). -/
def ownerSoundQuery (s : State) : Answer := s.ok (s.snd.bytes s.tl.rate)

/-- SOUND QUERY (R105). -/
def execSoundQuery (tag : Byte) (payload : List Byte) (s : State) : Host.Outcome State Fault Refusal :=
  request 43 (bare ownerSoundQuery) tag payload s

/-! ### Completions (R92, R98) -/

/-- GAIN_FADE_END: a host fader or pause gain fade that has taken its last step ends at its target (R92). -/
def State.gainFadeEnd (s : State) (g : GainId) : State :=
  match g with
  | .host o => s.modifySnd (Sound.modifyOutput o.val fun y => { y with fader := y.fader.finish })
  | .pause => s.modifySnd fun x => { x with pause := x.pause.finish }

/-- GAIN_FADE_END (R92). -/
def execGainFadeEnd (gain : GainId) (s : State) : Host.Outcome State Fault Refusal := .next (s.gainFadeEnd gain)

/-- SWITCH_DOWN_COMPLETE (R98). -/
def execSwitchDownComplete (output : Fin 18) (s : State) : Host.Outcome State Fault Refusal :=
  .next (s.modifySnd (Sound.modifyOutput output.val Output.downComplete))

/-- SWITCH_UP_COMPLETE (R98). -/
def execSwitchUpComplete (output : Fin 18) (s : State) : Host.Outcome State Fault Refusal :=
  .next (s.modifySnd (Sound.modifyOutput output.val Output.upComplete))

/-- The completions the last sample period left due, taken by the next one at the latest (log entry 4). -/
def Sound.settle (x : Sound) : Sound :=
  { x with pause := x.pause.finish,
           outputs := x.outputs.map fun y =>
             ({ y with fader := y.fader.finish } : Output).downComplete.upComplete }

end Sys2Proof.Machine
end

