-- ==== Sys2Proof/Machine/Meter.lean ====
section
/-!
DEFINITION. The Level Monitor and its silence watch (chapter 6), with the requests METER SET, METER START, METER STOP, METER READ and
SILENCE SET, and METER_WINDOW_COMPLETE.
-/
namespace Sys2Proof.Machine

/-! ### Triggers (R109) -/

/-- Change the Level Monitor. -/
def State.modifyMeter (s : State) (f : Meter → Meter) : State := s.setMeter (f s.meter)

/-- A trigger taken in IDLE: results cleared, the window converted, the first window begun (R109). -/
def Meter.start (n : Nat) (t : Trigger) (x : Meter) : Meter :=
  { x with results := x.results.map fun _ => MeterResult.reset, slots := x.slots.map fun _ => MeterResult.reset,
           length := n, channel := x.base, left := n, peak := 0, windows := 0, pass := 1, trigger := some t,
           state := .measuring }

/-- A trigger: it starts a measurement in IDLE and is ignored otherwise (R109). -/
def State.triggerMeter (s : State) (t : Trigger) : State :=
  if s.meter.state = .idle then s.modifyMeter (Meter.start (s.tl.rate.ofMs s.meter.windowMs) t) else s

/-! ### Windows (R107, R110) -/

/-- One sample period of a measurement: the magnitude read replaces a smaller running peak, and one sample fewer is left (R110). -/
def Meter.sample (v : Int) (x : Meter) : Meter := { x with peak := max x.peak (magnitude v), left := x.left - 1 }

/-- Whether the window in progress has run out of samples and is to complete (R110). -/
def Meter.windowDue (x : Meter) : Bool := x.state = .measuring && x.left = 0

/-- The value of the current channel at the set-up's point in this sample period, given the source values (R107). -/
def State.meterValue (s : State) (sources : List Int) : Int :=
  match s.meter.point with
  | .source => (sources[s.meter.channel]?).getD 0
  | .output => ((s.snd.outputs[s.meter.channel]?).map Output.out).getD 0

/-- The sample period's step of the Level Monitor (R110). -/
def State.meterSample (s : State) (sources : List Int) : State :=
  if s.meter.state = .measuring && s.meter.left ≠ 0 then s.modifyMeter (Meter.sample (s.meterValue sources)) else s

/-! ### Passes and reports (R110 to R113) -/

/-- The result a completed window writes: a watch slot in WATCH, the current channel's result otherwise (R110 to R112). -/
def Meter.writeResult (x : Meter) : Meter :=
  let r : MeterResult := { peak := x.peak, pass := x.pass, valid := true }
  let x := { x with windows := x.windows + 1, peak := 0, left := x.length }
  match x.mode with
  | .watch => { x with slots := updateAt (fun _ => r) ((x.windows - 1) % 8) x.slots }
  | .single | .sweep | .cycle => { x with results := updateAt (fun _ => r) x.channel x.results }

/-- Whether the window just completed is the last of its pass (R110). -/
def Meter.passDone (x : Meter) : Bool :=
  match x.mode with
  | .single => true
  | .watch => x.windows % 8 = 0
  | .sweep | .cycle => x.base + x.group ≤ x.channel + 1

/-- The channels or slots a pass writes (R110). -/
def Meter.passChannels (x : Meter) : List Nat :=
  match x.mode with
  | .single => [x.base]
  | .watch => List.range 8
  | .sweep | .cycle => (List.range x.group).map (x.base + ·)

/-- The peak a pass wrote for a channel or slot. -/
def Meter.peakOf (x : Meter) (c : Nat) : Nat :=
  ((if x.mode = .watch then x.slots[c]? else x.results[c]?).map MeterResult.peak).getD 0

/-- The highest peak of a pass with its channel or slot, the lowest number where several are equal (R113). -/
def Meter.highest (x : Meter) : Nat × Nat :=
  match x.passChannels with
  | [] => (0, 0)
  | c :: cs => cs.foldl (fun best c => if best.1 < x.peakOf c then (x.peakOf c, c) else best) (x.peakOf c, c)

/-- A report: the METER details are replaced and METER is raised (R113). -/
def State.reportMeter (s : State) : State :=
  let x := s.meter
  let (peak, channel) := x.highest
  (s.modifyMeter fun x => { x with
    details := some { mode := x.mode, point := x.point, pass := x.pass, peak := peak, channel := channel,
                      trigger := x.trigger.getD .request } }).raise .meter

/-! ### The silence watch (R116 to R118) -/

/-- A SILENCE event of an output: the details are updated and SILENCE is raised (R118). -/
def State.silenceEvent (s : State) (o : Nat) (c : SilenceChange) : State :=
  (s.modifyMeter fun x => { x with
    silence := { raised := match c with
                   | .raised => x.silence.raised ||| (1#18 <<< o)
                   | .cleared => x.silence.raised &&& ~~~(1#18 <<< o)
                 last := some (o, c, s.tl.entry), count := satAdd8 x.silence.count 1 } }).raise .silence

/-- Set one quiet count. -/
def Meter.setQuiet (o n : Nat) (x : Meter) : Meter := { x with quiet := updateAt (fun _ => n) o x.quiet }

/-- Raise or clear one alarm. -/
def Meter.setAlarm (o : Nat) (raised : Bool) (x : Meter) : Meter :=
  { x with alarms := if raised then x.alarms ||| (1#18 <<< o) else x.alarms &&& ~~~(1#18 <<< o) }

/-- A quiet pass of an output (the first four rows of R117). -/
def State.quietPass (s : State) (o : Nat) : State :=
  let x := s.meter
  let n := min x.passCount ((x.quiet[o]?).getD 0 + 1)
  let s := s.modifyMeter (Meter.setQuiet o n)
  if n < x.passCount then s
  else
    let s := if x.alarms.getLsbD o then s else (s.modifyMeter (Meter.setAlarm o true)).silenceEvent o .raised
    s.setAcct (s.acct.silentOutput s.tl.entry o)

/-- A loud pass of an output (the last two rows of R117). -/
def State.loudPass (s : State) (o : Nat) : State :=
  let raised := s.meter.alarms.getLsbD o
  let s := s.modifyMeter fun x => (x.setQuiet o 0).setAlarm o false
  if raised then s.silenceEvent o .cleared else s

/-- The evaluation of one output of a completed pass (R117). -/
def State.evaluateOutput (s : State) (o : Nat) : State :=
  if s.meter.watched.getLsbD o then
    if s.meter.peakOf o < s.meter.threshold then s.quietPass o else s.loudPass o
  else s

/-- The evaluation of a completed CYCLE pass at OUTPUT while the show is RUNNING, in output order (R117). -/
def State.evaluateSilence (s : State) : State :=
  if s.meter.mode = .cycle && s.meter.point = .output && s.ctl.state = .running then
    s.meter.passChannels.foldl State.evaluateOutput s
  else s

/-- An event that leaves RUNNING sets every quiet count to 0 (R118). -/
def State.leaveRunning (s : State) : State := s.modifyMeter fun x => { x with quiet := x.quiet.map fun _ => 0 }

/-! ### Completion of a window (R110 to R112) -/

/-- SINGLE and SWEEP end with their pass (R111). The running peak and the samples left are then 0: the manual gives their values for an
abandoned measurement only (R114), so it is the model's choice (DESIGN CHOICE, log entry 35). -/
def Meter.finish (x : Meter) : Meter := { x with state := .idle, trigger := none, left := 0, peak := 0 }

/-- WATCH and CYCLE go on to their next pass (R112). -/
def Meter.nextPass (x : Meter) : Meter := { x with pass := satAdd16 x.pass 1, channel := x.base }

/-- The window's samples have run out: its result is written, and the pass reports, ends or goes on as the mode states (R110 to
R112, R117). -/
def State.meterWindowComplete (s : State) : State :=
  if s.meter.windowDue then
    let s := s.modifyMeter Meter.writeResult
    if s.meter.passDone then
      let s := s.reportMeter
      match s.meter.mode with
      | .single | .sweep => s.modifyMeter Meter.finish
      | .watch => s.modifyMeter Meter.nextPass
      | .cycle => s.evaluateSilence.modifyMeter Meter.nextPass
    else
      match s.meter.mode with
      | .sweep | .cycle => s.modifyMeter fun x => { x with channel := x.channel + 1 }
      | .single | .watch => s
  else s

/-- METER_WINDOW_COMPLETE (R110). -/
def execMeterWindowComplete (s : State) : Host.Outcome State Fault Refusal := .next s.meterWindowComplete.endEvent

/-! ### Ending a measurement (R114) -/

/-- The valid flag of a result of the unfinished pass is cleared. -/
def MeterResult.revoke (pass : Nat) (r : MeterResult) : MeterResult := if r.pass = pass then { r with valid := false } else r

/-- A measurement ends without a report, in the state given (R114). -/
def Meter.abandon (state : MeterState) (x : Meter) : Meter :=
  if x.state = .measuring then
    { x with results := x.results.map (MeterResult.revoke x.pass), slots := x.slots.map (MeterResult.revoke x.pass),
             trigger := none, peak := 0, left := 0, state := state }
  else { x with state := state }

/-! ### Requests (R108, R109, R114 to R116) -/

/-- Checks 2 to 5 of R108. -/
def meterSetUp (p : List Byte) (x : Meter) : Option Meter :=
  let base := byteAt p 1
  let group := byteAt p 2
  let window := field p 3 2
  match readMeterMode (byteAt p 0 / 16), readMeterPoint (byteAt p 0 % 16) with
  | some mode, some point =>
    let grouped := mode = .sweep || mode = .cycle
    if 17 < base || window < 10 || 1000 < window || (grouped && !(group ∈ [2, 4, 8, 16] && base + group ≤ 18)) then none
    else some { x with point := point, mode := mode, base := base, group := group, windowMs := window }
  | _, _ => none

/-- METER SET (R108). -/
def ownerMeterSet (p : List Byte) (s : State) : Answer :=
  match s.meter.state with
  | .off => s.refuse .notActive
  | .measuring => s.refuse .busy
  | .idle =>
    if p.length ≠ 5 then s.refuse .badLength
    else match meterSetUp p s.meter with
      | none => s.refuse .badField
      | some x => (s.setMeter x).ok

/-- METER SET (R108). -/
def execMeterSet (tag : Byte) (payload : List Byte) (s : State) : Host.Outcome State Fault Refusal :=
  request 44 ownerMeterSet tag payload s

/-- METER START (R109): the reply carries N and the mode, the mode alone as a byte 0 to 3, where R185 codes it in the high four bits of
the mode-and-point byte only: the model's choice (DESIGN CHOICE, log entry 33). -/
def ownerMeterStart (p : List Byte) (s : State) : Answer :=
  match s.meter.state with
  | .off => s.refuse .notActive
  | .measuring => s.refuse .busy
  | .idle =>
    bare (fun s =>
      let s := s.triggerMeter .request
      s.ok (beBytes 4 s.meter.length ++ beBytes 1 s.meter.mode.code)) p s

/-- METER START (R109). -/
def execMeterStart (tag : Byte) (payload : List Byte) (s : State) : Host.Outcome State Fault Refusal :=
  request 45 ownerMeterStart tag payload s

/-- METER STOP (R114). -/
def ownerMeterStop (p : List Byte) (s : State) : Answer :=
  match s.meter.state with
  | .off => s.refuse .notActive
  | .idle | .measuring => bare (fun s => (s.modifyMeter (Meter.abandon .idle)).ok) p s

/-- METER STOP (R114). -/
def execMeterStop (tag : Byte) (payload : List Byte) (s : State) : Host.Outcome State Fault Refusal :=
  request 46 ownerMeterStop tag payload s

/-- A result as METER READ returns it. -/
def MeterResult.bytes (r : MeterResult) : List Byte := beBytes 3 r.peak ++ beBytes 2 r.pass ++ [flagByte r.valid]

/-- METER READ's reply data, in the order of R115. -/
def Meter.bytes (x : Meter) : List Byte :=
  x.state.code :: meterByte x.mode x.point :: (beBytes 1 x.base ++ beBytes 1 x.group ++ beBytes 2 x.windowMs ++
    (match x.trigger with | none => [0, 0] | some t => [1, t.code]) ++ beBytes 4 x.length ++ beBytes 2 x.pass ++
    beBytes 1 x.channel ++ x.results.flatMap MeterResult.bytes ++ x.slots.flatMap MeterResult.bytes ++
    (match x.details with | none => 0 :: noSummary | some d => 1 :: d.summary) ++ beBytes 3 x.watched.toNat ++
    beBytes 3 x.threshold ++ beBytes 1 x.passCount ++ x.quiet.flatMap (beBytes 1) ++ beBytes 3 x.alarms.toNat ++
    beBytes 3 x.silence.raised.toNat ++
    (match x.silence.last with
     | none => [0, 0, 0, 0, 0, 0]
     | some (o, c, e) => 1 :: (beBytes 1 o ++ [1, c.code, 1] ++ beBytes 1 e)) ++ beBytes 1 x.silence.count)

/-- METER READ (R115). -/
def ownerMeterRead (p : List Byte) (s : State) : Answer :=
  match s.meter.state with
  | .off => s.refuse .notActive
  | .idle | .measuring => bare (fun s => s.ok s.meter.bytes) p s

/-- METER READ (R115). -/
def execMeterRead (tag : Byte) (payload : List Byte) (s : State) : Host.Outcome State Fault Refusal :=
  request 47 ownerMeterRead tag payload s

/-- SILENCE SET (R116). -/
def ownerSilenceSet (p : List Byte) (s : State) : Answer :=
  match s.meter.state with
  | .off => s.refuse .notActive
  | .idle | .measuring =>
    if p.length ≠ 7 then s.refuse .badLength
    else match readOutputs (field p 0 3) with
      | none => s.refuse .badField
      | some set =>
        if 8388608 < field p 3 3 || byteAt p 6 = 0 then s.refuse .badField
        else
          (s.modifyMeter fun x => { x with watched := set, threshold := field p 3 3, passCount := byteAt p 6,
                                           quiet := x.quiet.map fun _ => 0 }).ok

/-- SILENCE SET (R116). -/
def execSilenceSet (tag : Byte) (payload : List Byte) (s : State) : Host.Outcome State Fault Refusal :=
  request 48 ownerSilenceSet tag payload s

end Sys2Proof.Machine
end

