-- ==== Sys2Proof/Machine/Cue.lean ====
section
/-!
DEFINITION. The output side of the Cue Unit (chapter 8): lines, pulses, interlocked pairs, the emergency pattern, the hold, cue
records and their firing, and the requests that drive and report them.
-/
namespace Sys2Proof.Machine

/-! ### Lines (R142) -/

/-- Change the Cue Unit. -/
def State.modifyCue (s : State) (f : CueUnit → CueUnit) : State := s.setCue (f s.cue)

/-- A configured level changes; the pin follows while the hold is clear (R142). -/
def CueUnit.setLevel (i : Nat) (b : Bool) (x : CueUnit) : CueUnit :=
  { x with lines := updateAt (fun l => { l with level := b, pin := if x.hold then l.pin else b }) i x.lines }

/-- A line's pulse timer is set or stopped. -/
def CueUnit.setPulse (i : Nat) (t : Option Nat) (x : CueUnit) : CueUnit :=
  { x with lines := updateAt (fun l => { l with pulse := t }) i x.lines }

/-- A line's mode changes. -/
def CueUnit.setMode (i : Nat) (m : LineMode) (x : CueUnit) : CueUnit :=
  { x with lines := updateAt (fun l => { l with mode := m }) i x.lines }

/-- A line's mode; LEVEL for a line that is not there. -/
def CueUnit.modeOf (x : CueUnit) (i : Nat) : LineMode := ((x.lines[i]?).map CueLine.mode).getD .level

/-- A line's configured level. -/
def CueUnit.levelOf (x : CueUnit) (i : Nat) : Bool := ((x.lines[i]?).map CueLine.level).getD false

/-- A line's pin level. -/
def CueUnit.pinOf (x : CueUnit) (i : Nat) : Bool := ((x.lines[i]?).map CueLine.pin).getD false

/-- A LINE action on a line (R142). -/
def CueUnit.lineAction (i : Nat) (op : LineOp) (x : CueUnit) : CueUnit :=
  match op with
  | .set => x.setLevel i true
  | .clear => (x.setPulse i none).setLevel i false
  | .toggle => x.setLevel i !(x.levelOf i)

/-- A PULSE action on a line: active, with the timer at the new width (R142). -/
def CueUnit.pulseAction (i width : Nat) (x : CueUnit) : CueUnit := (x.setLevel i true).setPulse i (some width)

/-- A pulse timer that has run out expires: the line goes inactive (R142). -/
def CueUnit.pulseExpiry (i : Nat) (x : CueUnit) : CueUnit :=
  if ((x.lines[i]?).bind CueLine.pulse) = some 0 then (x.setPulse i none).setLevel i false else x

/-! ### Interlocked pairs (R145, R146) -/

/-- Change a pair record. -/
def CueUnit.modifyPair (k : Nat) (f : Pair → Pair) (x : CueUnit) : CueUnit := { x with pairs := updateAt f k x.pairs }

/-- A pair record; the reset one for a pair that is not there. -/
def CueUnit.pairOf (x : CueUnit) (k : Nat) : Pair := (x.pairs[k]?).getD .reset

/-- A pair's state and timer change. -/
def CueUnit.setPair (k : Nat) (st : PairState) (t : Option Nat) (x : CueUnit) : CueUnit :=
  x.modifyPair k fun p => { p with state := st, timer := t }

/-- Line A of a pair goes active, line B being inactive (R145). -/
def CueUnit.turnOnA (k : Nat) (x : CueUnit) : CueUnit :=
  ((x.setLevel (2 * k + 1) false).setLevel (2 * k) true).setPair k .aOn none

/-- Line B of a pair goes active, line A being inactive (R145). -/
def CueUnit.turnOnB (k : Nat) (x : CueUnit) : CueUnit :=
  ((x.setLevel (2 * k) false).setLevel (2 * k + 1) true).setPair k .bOn none

/-- Both lines of a pair inactive. -/
def CueUnit.bothOff (k : Nat) (x : CueUnit) : CueUnit := (x.setLevel (2 * k) false).setLevel (2 * k + 1) false

/-- Both lines inactive, and the target reached after dead time `td`: at once when it is 0 (R145, R146). -/
def CueUnit.deadThen (k : Nat) (target : PairTarget) (td : Nat) (x : CueUnit) : CueUnit :=
  let x := x.bothOff k
  match target with
  | .a => if td = 0 then x.turnOnA k else x.setPair k .deadA (some td)
  | .b => if td = 0 then x.turnOnB k else x.setPair k .deadB (some td)
  | .off => x.setPair k .off (if td = 0 then none else some td)

/-- A pair request, by the table of R145. -/
def CueUnit.pairRequest (k : Nat) (target : PairTarget) (x : CueUnit) : CueUnit :=
  let p := x.pairOf k
  match p.state, target with
  | .off, .a => if p.timer.isNone then x.turnOnA k else x.setPair k .deadA p.timer
  | .off, .b => if p.timer.isNone then x.turnOnB k else x.setPair k .deadB p.timer
  | .off, .off => x
  | .aOn, .a => x
  | .aOn, t => x.deadThen k t p.deadTime
  | .bOn, .b => x
  | .bOn, t => x.deadThen k t p.deadTime
  | .deadA, t => x.deadThen k t p.deadTime
  | .deadB, t => x.deadThen k t p.deadTime

/-- A dead timer that has run out expires (R145). -/
def CueUnit.deadExpiry (k : Nat) (x : CueUnit) : CueUnit :=
  let p := x.pairOf k
  if p.timer = some 0 then
    match p.state with
    | .deadA => x.turnOnA k
    | .deadB => x.turnOnB k
    | .off | .aOn | .bOn => x.setPair k p.state none
  else x

/-! ### The emergency pattern and the hold (R150, R152) -/

/-- The pattern's effect on one line that is in no enabled pair: LEVEL lines of the mask take the pattern's level, PULSE lines end
their pulse (R150). -/
def emergencyLine (mask pattern : BitVec 8) (i : Nat) (l : CueLine) : CueLine :=
  match l.mode with
  | .level => if mask.getLsbD i then { l with level := pattern.getLsbD i } else l
  | .pulse => { l with level := false, pulse := none }
  | .pair => l

/-- The pattern's effect on a pair: an enabled one goes OFF, with a new dead time when one of its lines was active (R150). -/
def CueUnit.emergencyPair (x : CueUnit) (k : Nat) : CueUnit :=
  let p := x.pairOf k
  if p.enabled then
    let active := x.pinOf (2 * k) || x.pinOf (2 * k + 1) || p.state = .aOn || p.state = .bOn
    if active then x.deadThen k .off p.deadTime else (x.bothOff k).setPair k .off p.timer
  else x

/-- The emergency pattern applied (R150). -/
def CueUnit.emergency (x : CueUnit) : CueUnit :=
  let x := (List.range 4).foldl CueUnit.emergencyPair x
  { x with lines := (indexed x.lines).map fun (i, l) =>
             let l := emergencyLine x.mask x.pattern i l
             { l with pin := l.level }
           hold := false }

/-- The release of an enabled pair by its held line (the table of R152). -/
def CueUnit.releasePair (x : CueUnit) (k : Nat) : CueUnit :=
  let p := x.pairOf k
  if p.enabled then
    if x.pinOf (2 * k) then
      match p.state with
      | .aOn | .deadA => x.turnOnA k
      | .off => x.deadThen k .off p.deadTime
      | .bOn | .deadB => x.deadThen k .b p.deadTime
    else if x.pinOf (2 * k + 1) then
      match p.state with
      | .bOn | .deadB => x.turnOnB k
      | .off => x.deadThen k .off p.deadTime
      | .aOn | .deadA => x.deadThen k .a p.deadTime
    else x
  else x

/-- HOLD RELEASE: the pairs are released, then every pin takes its line's configured level (R152). -/
def CueUnit.release (x : CueUnit) : CueUnit :=
  if x.hold then
    let x := (List.range 4).foldl CueUnit.releasePair x
    { x with lines := x.lines.map fun l => { l with pin := l.level }, hold := false }
  else x

/-- Entry into NIGHT: every pin level is latched (R151). -/
def CueUnit.latch (x : CueUnit) : CueUnit := { x with lines := x.lines.map fun l => { l with latched := l.pin } }

/-- The Cue Unit after a restart, or after a night wake, which keeps the pins at the latched levels under the hold (R137, R151). -/
def CueUnit.restart (wake : Bool) (x : CueUnit) : CueUnit :=
  { CueUnit.reset with
    hold := wake
    lines := x.lines.map fun l => { CueLine.reset with latched := l.latched, pin := wake && l.latched } }

/-! ### Cue records (R138) -/

/-- Whether an action fits the current mode of its line or pair (the table of R138). -/
def CueUnit.fits (x : CueUnit) : CueAction → Bool
  | .line i .clear => x.modeOf i = .level || x.modeOf i = .pulse
  | .line i _ => x.modeOf i = .level
  | .pulse i _ => x.modeOf i = .pulse
  | .pair k _ => (x.pairOf k).enabled
  | .fade _ _ _ | .meter | .subtitle _ _ | .notice => true

/-- The line whose mode an action is written for: line A for a PAIR action (R138). -/
def CueAction.lineOf : CueAction → Option Nat
  | .line i _ => some i
  | .pulse i _ => some i
  | .pair k _ => some (2 * k)
  | .fade _ _ _ | .meter | .subtitle _ _ | .notice => none

/-- Read an action and its parameters, zero-filled to 7 bytes (section 12.5, ranges of R140). -/
def readCueAction (code : Nat) (p : List Byte) : Option CueAction :=
  let zeroFrom (n : Nat) : Bool := (p.drop n).all (· = 0)
  match code with
  | 1 => if zeroFrom 2 && byteAt p 0 < 8 then (readLineOp (byteAt p 1)).map (.line (byteAt p 0)) else none
  | 2 =>
    if zeroFrom 3 && byteAt p 0 < 8 && 10 ≤ field p 1 2 && field p 1 2 ≤ 10000 then some (.pulse (byteAt p 0) (field p 1 2))
    else none
  | 3 => if zeroFrom 2 && byteAt p 0 < 4 then (readPairTarget (byteAt p 1)).map (.pair (byteAt p 0)) else none
  | 4 =>
    match readOutputs (field p 0 3) with
    | some set => if set = 0 then none else some (.fade set (field p 3 2) (field p 5 2))
    | none => none
  | 5 => if zeroFrom 0 then some .meter else none
  | 6 =>
    match zeroFrom 2, readTrack (byteAt p 0), readFlag (byteAt p 1) with
    | true, some t, some on => some (.subtitle t on)
    | _, _, _ => none
  | 7 => if zeroFrom 0 then some .notice else none
  | _ => none

/-- Read an anchor (section 12.5). -/
def readAnchor : Nat → Option Anchor
  | 0 => some .start
  | 1 => some .finish
  | _ => none

/-- Read a 16-byte cue record: checks 2 and 3 of R138; its written mode is that of its line as it stands. -/
def CueUnit.readCue (x : CueUnit) (p : List Byte) : Option CueRecord :=
  if 63 < byteAt p 0 || 15 < byteAt p 1 || 3000000 < field p 3 4 then none
  else match readAnchor (byteAt p 2), readFlag (byteAt p 7), readCueAction (byteAt p 8) ((p.drop 9).take 7) with
    | some anchor, some enabled, some action =>
      if x.fits action then
        some { number := byteAt p 0, entry := byteAt p 1, anchor := anchor, offset := field p 3 4, action := action,
               enabled := enabled, writtenMode := action.lineOf.map x.modeOf }
      else none
    | _, _, _ => none

/-- Store a cue in a list kept in number order, replacing one of the same number (R138). -/
def insertCue (c : CueRecord) : List CueRecord → List CueRecord
  | [] => [c]
  | a :: l => if c.number < a.number then c :: a :: l else if c.number = a.number then c :: l else a :: insertCue c l

/-- Remove a cue number from a list. -/
def deleteCue (n : Nat) (l : List CueRecord) : List CueRecord := l.filter fun c => c.number ≠ n

/-- Whether an edit reaches the live list too: outside RUNNING, PAUSED and STOPPING (R41). -/
def ShowState.editsLive (st : ShowState) : Bool := !st.grace

/-- Change the cue lists an edit reaches (R41). -/
def State.editCues (s : State) (f : List CueRecord → List CueRecord) : State :=
  s.modifyCue fun x =>
    if s.ctl.state.editsLive then { x with live := f x.live, waiting := f x.waiting } else { x with waiting := f x.waiting }

/-- The pending list is copied into the live list (R40, R42). -/
def CueUnit.copyCues (x : CueUnit) : CueUnit := { x with live := x.waiting }

/-! ### Firing (R139, R140) -/

/-- A NOTICE action at a frame: the CUE details and the CUE source (R140). -/
def State.cueNotice (s : State) (number entry frame : Nat) : State :=
  let count := (s.cue.details.map CueDetails.count).getD 0
  (s.modifyCue fun x => { x with
    details := some { number := number, entry := entry, frame := frame, count := satAdd8 count 1 } }).raise .cue

/-- Perform a cue's action at a frame of its entry (R140). -/
def State.performCue (s : State) (frame : Nat) (c : CueRecord) : State :=
  match c.action with
  | .line i op => s.modifyCue (CueUnit.lineAction i op)
  | .pulse i w => s.modifyCue (CueUnit.pulseAction i w)
  | .pair k t => s.modifyCue (CueUnit.pairRequest k t)
  | .fade set target ms => s.startFade set target ms
  | .meter => s.triggerMeter .cue
  | .subtitle t on => s.enableSubtitle t on
  | .notice => s.cueNotice c.number c.entry frame

/-- Whether a cue written for one line mode is skipped: the line's mode is another now (R139). -/
def CueUnit.skips (x : CueUnit) (c : CueRecord) : Bool :=
  match c.action.lineOf with
  | some i => c.writtenMode ≠ some (x.modeOf i)
  | none => false

/-- Fire one cue, or skip it (R139). -/
def State.fireCue (frame : Nat) (s : State) (c : CueRecord) : State :=
  if s.cue.skips c then s.modifyCue fun x => { x with skipCount := satAdd8 x.skipCount 1, skipLast := some c.number }
  else s.performCue frame c

/-- Fire the enabled cues of the live list that resolve to a frame of an entry, in cue number order; the entry's total stands for
its entry end (R14, R139). -/
def State.fireCues (s : State) (entry total frame : Nat) : State :=
  (s.cue.live.filter fun c => c.enabled && c.entry = entry && resolve total c.anchor c.offset = frame).foldl
    (State.fireCue frame) s

/-! ### Requests (R138, R141, R143, R144, R150, R152) -/

/-- CUE EDIT WRITE (R138). The payload's first byte is the operation; one that is neither WRITE nor DELETE is refused here. -/
def ownerCueEditWrite (p : List Byte) (s : State) : Answer :=
  if p.length = 0 then s.refuse .badLength
  else if byteAt p 0 ≠ 1 then s.refuse .badField
  else if p.length ≠ 17 then s.refuse .badLength
  else match s.cue.readCue (p.drop 1) with
    | none => s.refuse .badField
    | some c => (s.editCues (insertCue c)).ok

/-- CUE_EDIT_WRITE: the take of a CUE EDIT frame whose operation is not DELETE (R138). -/
def execCueEditWrite (tag : Byte) (payload : List Byte) (s : State) : Host.Outcome State Fault Refusal :=
  if byteAt payload 0 = 2 then .next s else request 26 ownerCueEditWrite tag payload s

/-- CUE EDIT DELETE (R138). -/
def ownerCueEditDelete (p : List Byte) (s : State) : Answer :=
  if p.length ≠ 2 then s.refuse .badLength
  else if 63 < byteAt p 1 then s.refuse .badField
  else
    let l := if s.ctl.state.editsLive then s.cue.live else s.cue.waiting
    if l.any fun c => c.number = byteAt p 1 then (s.editCues (deleteCue (byteAt p 1))).ok else s.refuse .notFound

/-- CUE_EDIT_DELETE: the take of a CUE EDIT frame whose operation is DELETE (R138). -/
def execCueEditDelete (tag : Byte) (payload : List Byte) (s : State) : Host.Outcome State Fault Refusal :=
  if byteAt payload 0 = 2 then request 26 ownerCueEditDelete tag payload s else .next s

/-- The parameters of an action, zero-filled to 7 bytes (section 12.5). -/
def CueAction.params : CueAction → List Byte
  | .line i op => beBytes 1 i ++ [(match op with | .set => 1 | .clear => 2 | .toggle => 3 : Byte)] ++ List.replicate 5 0
  | .pulse i w => beBytes 1 i ++ beBytes 2 w ++ List.replicate 4 0
  | .pair k t => beBytes 1 k ++ [(match t with | .a => 1 | .b => 2 | .off => 3 : Byte)] ++ List.replicate 5 0
  | .fade set target ms => beBytes 3 set.toNat ++ beBytes 2 target ++ beBytes 2 ms
  | .meter | .notice => List.replicate 7 0
  | .subtitle t on => [t.code, flagByte on] ++ List.replicate 5 0

/-- The code of an action (section 12.5). -/
def CueAction.code : CueAction → Byte
  | .line _ _ => 1 | .pulse _ _ => 2 | .pair _ _ => 3 | .fade _ _ _ => 4 | .meter => 5 | .subtitle _ _ => 6 | .notice => 7

/-- A cue record in its 16 bytes (section 12.5), then its written mode with a presence byte. -/
def CueRecord.bytes (c : CueRecord) : List Byte :=
  beBytes 1 c.number ++ beBytes 1 c.entry ++ [(match c.anchor with | .start => 0 | .finish => 1 : Byte)] ++ beBytes 4 c.offset ++
    [flagByte c.enabled, c.action.code] ++ c.action.params ++
    (match c.writtenMode with | some m => [1, m.code] | none => [0, 0])

/-- The CUE details as CUE LIST returns them. -/
def cueDetailBytes : Option CueDetails → List Byte
  | none => 0 :: noSummary
  | some d => 1 :: d.summary

/-- CUE LIST (R138). -/
def ownerCueList (p : List Byte) (s : State) : Answer :=
  if 1 < byteAt p 0 || 63 < byteAt p 1 then s.refuse .badField
  else
    let l := if byteAt p 0 = 0 then s.cue.live else s.cue.waiting
    let rest := l.filter fun c => byteAt p 1 ≤ c.number
    let next := match rest.drop 32 with
      | c :: _ => c.number
      | [] => 255
    let page := rest.take 32
    s.ok (beBytes 1 l.length ++ beBytes 1 s.cue.skipCount ++ optBytes 1 s.cue.skipLast ++ cueDetailBytes s.cue.details ++
      beBytes 1 page.length ++ page.flatMap CueRecord.bytes ++ beBytes 1 next)

/-- CUE LIST (R138). -/
def execCueList (tag : Byte) (payload : List Byte) (s : State) : Host.Outcome State Fault Refusal :=
  request 27 (sized 2 ownerCueList) tag payload s

/-- Whether a line belongs to an enabled pair. -/
def CueUnit.paired (x : CueUnit) (i : Nat) : Bool := (x.pairOf (i / 2)).enabled

/-- LINE CONFIG (R141). -/
def ownerLineConfig (p : List Byte) (s : State) : Answer :=
  if s.playing then s.refuse .busy
  else if p.length ≠ 2 then s.refuse .badLength
  else match readLineMode (byteAt p 1) with
    | none => s.refuse .badField
    | some m =>
      let i := byteAt p 0
      if 7 < i || s.cue.paired i then s.refuse .badField
      else if s.cue.modeOf i = m then s.ok
      else (s.modifyCue fun x => ((x.setMode i m).setPulse i none).setLevel i false).ok

/-- LINE CONFIG (R141). -/
def execLineConfig (tag : Byte) (payload : List Byte) (s : State) : Host.Outcome State Fault Refusal :=
  request 56 ownerLineConfig tag payload s

/-- Configured and pin level of a line (R143). -/
def CueUnit.levelBytes (x : CueUnit) (i : Nat) : List Byte := [flagByte (x.levelOf i), flagByte (x.pinOf i)]

/-- LINE (R142, R143). -/
def ownerLine (p : List Byte) (s : State) : Answer :=
  match readLineOp (byteAt p 1) with
  | none => s.refuse .badField
  | some op =>
    let i := byteAt p 0
    if 7 < i || !s.cue.fits (.line i op) then s.refuse .badField
    else
      let s := s.modifyCue (CueUnit.lineAction i op)
      s.ok (s.cue.levelBytes i)

/-- LINE (R143). -/
def execLine (tag : Byte) (payload : List Byte) (s : State) : Host.Outcome State Fault Refusal :=
  request 57 (sized 2 ownerLine) tag payload s

/-- LINE PULSE (R142, R143). -/
def ownerLinePulse (p : List Byte) (s : State) : Answer :=
  let i := byteAt p 0
  let w := field p 1 2
  if 7 < i || w < 10 || 10000 < w || !s.cue.fits (.pulse i w) then s.refuse .badField
  else
    let s := s.modifyCue (CueUnit.pulseAction i w)
    s.ok (s.cue.levelBytes i)

/-- LINE PULSE (R143). -/
def execLinePulse (tag : Byte) (payload : List Byte) (s : State) : Host.Outcome State Fault Refusal :=
  request 58 (sized 3 ownerLinePulse) tag payload s

/-- A disabled pair is enabled (R144). -/
def CueUnit.enablePair (k td : Nat) (x : CueUnit) : CueUnit :=
  let active := x.levelOf (2 * k) || x.levelOf (2 * k + 1)
  let x := ((x.setMode (2 * k) .pair).setMode (2 * k + 1) .pair).setPulse (2 * k) none |>.setPulse (2 * k + 1) none
  let x := x.modifyPair k fun p => { p with enabled := true, deadTime := td }
  if active then x.deadThen k .off td else x.setPair k .off none

/-- An enabled pair is disabled (R144). The rule does not say whether the request's dead time is stored then: it is, as in its other
cases (DESIGN CHOICE, log entry 36). -/
def CueUnit.disablePair (k td : Nat) (x : CueUnit) : CueUnit :=
  let x := ((x.setMode (2 * k) .level).setMode (2 * k + 1) .level).bothOff k
  x.modifyPair k fun _ => { enabled := false, deadTime := td, state := .off, timer := none }

/-- PAIR CONFIG (R144). -/
def ownerPairConfig (p : List Byte) (s : State) : Answer :=
  let k := byteAt p 0
  let td := field p 2 2
  if s.playing then s.refuse .busy
  else if p.length ≠ 4 then s.refuse .badLength
  else match readFlag (byteAt p 1) with
    | none => s.refuse .badField
    | some on =>
      if 3 < k || 5000 < td then s.refuse .badField
      else
        let was := (s.cue.pairOf k).enabled
        if s.cue.hold && on && !was && s.cue.pinOf (2 * k) && s.cue.pinOf (2 * k + 1) then s.refuse .busy
        else
          (s.modifyCue fun x =>
            match was, on with
            | false, true => x.enablePair k td
            | true, false => x.disablePair k td
            | _, _ => x.modifyPair k fun p => { p with deadTime := td }).ok

/-- PAIR CONFIG (R144). -/
def execPairConfig (tag : Byte) (payload : List Byte) (s : State) : Host.Outcome State Fault Refusal :=
  request 59 ownerPairConfig tag payload s

/-- PAIR (R143, R145). The four levels are sent line by line, configured level then pin level, A before B (DESIGN CHOICE, log entry
40); the remaining dead time of a stopped dead timer is sent as 0 (DESIGN CHOICE, log entry 27). -/
def ownerPair (p : List Byte) (s : State) : Answer :=
  match readPairTarget (byteAt p 1) with
  | none => s.refuse .badField
  | some t =>
    let k := byteAt p 0
    if 3 < k || !s.cue.fits (.pair k t) then s.refuse .badField
    else
      let s := s.modifyCue (CueUnit.pairRequest k t)
      s.ok ((s.cue.pairOf k).state.code :: (s.cue.levelBytes (2 * k) ++ s.cue.levelBytes (2 * k + 1) ++
        beBytes 2 ((s.cue.pairOf k).timer.getD 0)))

/-- PAIR (R143). -/
def execPair (tag : Byte) (payload : List Byte) (s : State) : Host.Outcome State Fault Refusal :=
  request 60 (sized 2 ownerPair) tag payload s

/-- EMERGENCY CONFIG (R150). -/
def ownerEmergencyConfig (p : List Byte) (s : State) : Answer :=
  (s.modifyCue fun x => { x with mask := BitVec.ofNat 8 (byteAt p 0), pattern := BitVec.ofNat 8 (byteAt p 1) }).ok

/-- EMERGENCY CONFIG (R150). -/
def execEmergencyConfig (tag : Byte) (payload : List Byte) (s : State) : Host.Outcome State Fault Refusal :=
  request 63 (sized 2 ownerEmergencyConfig) tag payload s

/-- A set of lines as one byte. -/
def lineSet (p : CueLine → Bool) (x : CueUnit) : Byte :=
  (indexed x.lines).foldl (fun b (i, l) => if p l then b ||| (1#8 <<< i) else b) 0

/-- HOLD RELEASE: the reply carries each pin level and pair state after the release (R152). -/
def ownerHoldRelease (s : State) : Answer :=
  let s := s.modifyCue CueUnit.release
  s.ok (lineSet CueLine.pin s.cue :: s.cue.pairs.map fun p => p.state.code)

/-- HOLD RELEASE (R152). -/
def execHoldRelease (tag : Byte) (payload : List Byte) (s : State) : Host.Outcome State Fault Refusal :=
  request 64 (bare ownerHoldRelease) tag payload s

/-- LINE QUERY's reply data, in the order of R143. The manual does not say how the remaining time of a stopped pulse timer or dead timer
is sent, or the latched levels: 0 without a presence byte (DESIGN CHOICE, log entry 27), and one byte with a bit for each line (DESIGN
CHOICE, log entry 11). -/
def CueUnit.bytes (x : CueUnit) : List Byte :=
  x.lines.flatMap (fun l => [l.mode.code, flagByte l.level, flagByte l.pin] ++ beBytes 2 (l.pulse.getD 0)) ++
    x.pairs.flatMap (fun p => flagByte p.enabled :: (beBytes 2 p.deadTime ++ [p.state.code] ++ beBytes 2 (p.timer.getD 0))) ++
    [flagByte x.hold, lineSet CueLine.latched x, x.mask, x.pattern] ++
    ((x.inputs.zip x.captures).flatMap fun (i, c) =>
      [i.edge.code, i.action.code, acceptedCode i.accepted, flagByte (c.any CaptureRecord.fresh)])

/-- LINE QUERY (R143). -/
def ownerLineQuery (s : State) : Answer := s.ok s.cue.bytes

/-- LINE QUERY (R143). -/
def execLineQuery (tag : Byte) (payload : List Byte) (s : State) : Host.Outcome State Fault Refusal :=
  request 65 (bare ownerLineQuery) tag payload s

/-! ### Expiries (R142, R145) -/

/-- PULSE_EXPIRY: the Cue Unit runs in ACTIVE and READY (R137, R142). -/
def execPulseExpiry (line : Fin 8) (s : State) : Host.Outcome State Fault Refusal :=
  .next (if s.pwr.state = .night then s else s.modifyCue (CueUnit.pulseExpiry line.val))

/-- DEAD_TIMER_EXPIRY: the Cue Unit runs in ACTIVE and READY (R137, R145). -/
def execDeadTimerExpiry (pair : Fin 4) (s : State) : Host.Outcome State Fault Refusal :=
  .next (if s.pwr.state = .night then s else s.modifyCue (CueUnit.deadExpiry pair.val))

end Sys2Proof.Machine
end

