-- ==== Sys2Proof/Machine/Show.lean ====
section
/-!
DEFINITION. The Picture Output (section 4.8), the Timeline's chain of announcements (chapter 1), the Show Controller's starts, pauses,
stops and requests (chapter 2), and the commands SAMPLE_PERIOD, STOP_FADE_COMPLETE, ARM_TIMEOUT and PAUSE_LIMIT_EXPIRY.
-/
namespace Sys2Proof.Machine

/-- Change the Show Controller. -/
def State.modifyCtl (s : State) (f : ShowControl → ShowControl) : State := s.setCtl (f s.ctl)

/-- Change the Timeline. -/
def State.modifyTl (s : State) (f : Timeline → Timeline) : State := s.setTl (f s.tl)

/-! ### Picture Output (R81 to R83) -/

/-- Send a record on the picture link. -/
def State.sendPicture (s : State) (r : PictureRecord) : State := s.setPorts { s.ports with picture := s.ports.picture ++ [r] }

/-- The rate-change indication of an entry start: the edit rate differs from that of the entry before (R10). -/
def State.rateChanges (s : State) (i : Nat) (e : Entry) : Bool :=
  match i with
  | 0 => false
  | j + 1 => (s.entryAt j).any fun d => d.editRate ≠ e.editRate

/-- An entry start: BEGIN at entry 0, RATE at a later entry whose edit rate differs (R81). -/
def State.pictureEntryStart (s : State) (i : Nat) (e : Entry) : State :=
  if i = 0 then (s.sendPicture (.start e.editRate)).setPic { showing := true, last := none }
  else if s.rateChanges i e then s.sendPicture (.rate e.editRate) else s

/-- A slot start: PICTURE for a READY take, REPEAT and one picture defect for a lost or late one (R77, R82). -/
def State.pictureSlotStart (s : State) (i f : Nat) : State :=
  let pos := s.posOf i f
  match s.take .pq i f with
  | (.ready data, s) => (s.sendPicture (.picture pos data)).setPic { s.pic with last := some pos }
  | (.lost _, s) => (s.setAcct (s.acct.pictureDefect i)).sendPicture (.again i f)
  | (.late, s) => (s.setAcct (s.acct.pictureDefect i)).sendPicture (.again i f)

/-- Entry into STOPPING: END, once (R83). -/
def State.pictureEnd (s : State) : State :=
  if s.pic.showing then (s.sendPicture .finish).setPic { s.pic with showing := false } else s

/-! ### Entry into STOPPING (R37, R39) -/

/-- The stop fade of an outcome in milliseconds (R37). -/
def ShowOutcome.fadeMs : ShowOutcome → Nat
  | .interrupted => 10
  | .complete | .stopped | .abandoned => 20

/-- Entry into STOPPING with an outcome, by the hand-offs of R37, in one event. -/
def State.enterStopping (s : State) (o : ShowOutcome) : State :=
  let s := s.modifyTl fun t => { t with mode := .frozen }
  let s := (((s.soundStop o.fadeMs).purge).stopSubtitles).pictureEnd
  let s := (s.modifyCtl fun c => { c with state := .stopping, outcome := some o, pauseTimer := none }).leaveRunning
  s.showEvent .stopping (some o)

/-! ### The chain of announcements (R7 to R12) -/

/-- The announcement of a slot start to the blocks that watch it. The Picture Output and the Sound Engine take it in either order,
and so do the Cue Unit and the Subtitle Engine (R12, R140, log entry 5). -/
def State.slotStart (s : State) (i f : Nat) : State :=
  let pictureFirst := s.choice
  let s := s.chose
  let s := if pictureFirst then (s.pictureSlotStart i f).soundSlotStart i f else (s.soundSlotStart i f).pictureSlotStart i f
  let cueFirst := s.choice
  let s := s.chose
  let total := s.tl.total
  if cueFirst then (s.fireCues i total f).subtitleSlotStart i f else (s.subtitleSlotStart i f).fireCues i total f

/-- The reel start of reel `r` of the entry in play: the Subtitle Engine, then Intake's test of HELD requests (R9, R71, R129). -/
def State.reelStart (s : State) (r : Nat) : State :=
  (((s.modifyTl fun t => { t with reel := r }).subtitleReelStart .main).subtitleReelStart .assist).deliverHeld

/-- The Timeline's fields at the entry start of entry `i` (R10). -/
def Timeline.enterEntry (i : Nat) (e : Entry) (t : Timeline) : Timeline :=
  { t with entry := i, reel := 0, frame := 0, phase := 0, samplesPerFrame := t.rate.perFrame e.editRate, total := e.total,
           countPoint := e.countPoint }

/-- The chain of an entry start, its fields set: the entry start, the reel start of reel 0, the slot start of frame 0 (R10). -/
def State.announceEntry (s : State) (i : Nat) (e : Entry) : State :=
  let s := (s.pictureEntryStart i e).modifySnd (Sound.entryStart e)
  let s := s.modifyCue CueUnit.copyCues
  let s := (s.setAcct (s.acct.entryStart e e.countPoint)).subtitleEntryStart
  (s.reelStart 0).slotStart i 0

/-- The entry end of the entry in play, and what follows: the next entry's start, or the end of the show (R8, R39). -/
def State.entryEnd (s : State) : State :=
  let i := s.tl.entry
  let total := s.tl.total
  let s := s.modifyTl fun t => { t with frame := total, phase := 0 }
  let s := s.fireCues i total total
  let s := s.setAcct (s.acct.entryEnd i total)
  match s.entryAt (i + 1) with
  | some e => (s.modifyTl (Timeline.enterEntry (i + 1) e)).announceEntry (i + 1) e
  | none => s.enterStopping .complete

/-- The slot end of the frame in play: the charge when it carries the count-point mark (R7, R17, R158). -/
def State.slotEnd (s : State) : State :=
  if s.tl.countPoint = some (s.tl.frame + 1) then s.chargeEntry s.tl.entry else s

/-- The start of the next slot of the entry in play, with the reel start when its frame begins a reel (R7, R9). -/
def State.nextSlot (s : State) : State :=
  let i := s.tl.entry
  let f := s.tl.frame + 1
  let s := s.modifyTl fun t => { t with frame := f, phase := 0 }
  let s := match (s.entryAt i).bind fun e => e.reelStartingAt f with
    | some r => s.reelStart r
    | none => s
  s.slotStart i f

/-- The whole chain that follows the last sample of a slot (R6 to R8). -/
def State.chain (s : State) : State :=
  let s := s.slotEnd
  if s.tl.frame + 1 < s.tl.total then s.nextSlot else s.entryEnd

/-! ### Starting (R33, R34) -/

/-- The first key of the pin set, in the order of R28, that is not VALID. -/
def State.failingPin (s : State) : Option Id := s.ctl.pins.find? fun id => !s.keys.valid id

/-- A successful start: the record is opened, the Timeline takes the programme's rate and starts entry 0 (R11, R33, R95). -/
def State.startShow (s : State) : State :=
  match s.ctl.programme, s.entryAt 0 with
  | some p, some e =>
    let oldRate := s.tl.rate
    let s := s.modifyCtl fun c => { c with state := .running, schedule := none }
    let s := s.setAcct (s.acct.openRecord p.id s.pwr.clock)
    let s := s.modifyTl fun t => ({ t with mode := .advancing, rate := e.rate } : Timeline).enterEntry 0 e
    ((s.soundStart oldRate).announceEntry 0 e).showEvent .started none
  | _, _ => s

/-- A booth input START in ARMED, and the attempt of a scheduled start: the re-check, then the start or START_FAILED (R33, R34). -/
def State.attemptStart (s : State) : State :=
  match s.failingPin with
  | none => s.startShow
  | some _ => s.showEvent .startFailed none

/-- The comparison of a scheduled start with the clock, at a booth clock second and at a CLOCK SET (R34). -/
def State.scheduledStart (s : State) : State :=
  match s.ctl.schedule with
  | some t =>
    if s.ctl.state = .armed && t ≤ s.pwr.clock then (s.modifyCtl fun c => { c with schedule := none }).attemptStart else s
  | none => s

/-! ### Pausing, resuming, stopping (R32, R35 to R38) -/

/-- PAUSE taken in RUNNING (R35, R93, R118). -/
def State.pauseShow (s : State) : State :=
  let limit := (s.ctl.programme.map Programme.pauseLimit).getD 0
  let s := s.modifyCtl fun c =>
    { c with state := .paused, pausedMs := 0, pauseTimer := if limit = 0 then none else some (limit * 1000) }
  (((s.modifyTl fun t => { t with mode := .frozen }).fadePause 0 20).leaveRunning).showEvent .paused none

/-- RESUME taken in PAUSED (R36, R93). -/
def State.resumeShow (s : State) : State :=
  let s := s.modifyCtl fun c => { c with state := .running, pauseTimer := none }
  ((s.modifyTl fun t => { t with mode := .advancing }).fadePause Config.unity 20).showEvent .resumed none

/-- The return from ARMING or ARMED to LOADED: Intake purges, the tables go, the keys are unpinned, timer and schedule are gone
(R32, R132). -/
def State.disarm (s : State) (code : ShowCode) : State :=
  let s := (s.purge).discardTables
  let s := s.setKeys (s.keys.unpin s.ctl.pins)
  (s.modifyCtl fun c => { c with state := .loaded, pins := [], armTimer := none, schedule := none }).showEvent code none

/-- STOP, where it is taken: DISARMED from ARMING and ARMED, STOPPING from RUNNING and PAUSED (R32, R37). -/
def State.stopShow (s : State) : State :=
  match s.ctl.state with
  | .arming | .armed => s.disarm .disarmed
  | .running | .paused => s.enterStopping .stopped
  | .empty | .loaded | .stopping => s

/-- Whether STOP is taken in a show state (R37). -/
def ShowState.takesStop : ShowState → Bool
  | .arming | .armed | .running | .paused => true
  | .empty | .loaded | .stopping => false

/-- The outcome after a HALT in STOPPING: COMPLETE is kept, any other becomes INTERRUPTED (R38). -/
def haltOutcome : Option ShowOutcome → ShowOutcome
  | some .complete => .complete
  | some .stopped | some .abandoned | some .interrupted | none => .interrupted

/-- HALT, or an EMERGENCY input: the emergency pattern in every state, and what R38 adds by the show state. -/
def State.haltShow (s : State) : State :=
  let s := s.modifyCue CueUnit.emergency
  match s.ctl.state with
  | .running | .paused => s.enterStopping .interrupted
  | .stopping => (s.modifyCtl fun c => { c with outcome := some (haltOutcome c.outcome) }).fadePause 0 10
  | .empty | .loaded | .arming | .armed => s

/-! ### Completions and expiries (R32, R36, R40) -/

/-- Whether the stop fade has taken its last step (R40). -/
def State.stopDue (s : State) : Bool := s.ctl.state = .stopping && s.snd.pause.settled

/-- The stop fade's completion, in the order of R40. -/
def State.stopComplete (s : State) : State :=
  if s.stopDue then
    let outcome := s.ctl.outcome
    let s := (s.setAcct (s.acct.close s.tl.frame s.pwr.clock outcome)).examineLog
    let s := s.modifySnd fun x => { x with pause := x.pause.finish }
    let s := (s.setKeys (s.keys.unpin s.ctl.pins)).modifyCue CueUnit.copyCues
    let s := s.modifyCtl fun c => { c with state := .loaded, outcome := none, pins := [] }
    (s.modifyTl fun t => { t with mode := .still }).showEvent .ended outcome
  else s

/-- STOP_FADE_COMPLETE (R40). -/
def execStopFadeComplete (s : State) : Host.Outcome State Fault Refusal := .next s.stopComplete.endEvent

/-- The arm timer, run out in ARMING, expires (R32). -/
def State.armExpiry (s : State) : State :=
  if s.ctl.state = .arming && s.ctl.armTimer = some 0 then s.disarm .armTimeout else s

/-- ARM_TIMEOUT (R32). -/
def execArmTimeout (s : State) : Host.Outcome State Fault Refusal := .next s.armExpiry.endEvent

/-- The pause limit timer, run out in PAUSED, expires: ABANDONED (R36). -/
def State.pauseExpiry (s : State) : State :=
  if s.ctl.state = .paused && s.ctl.pauseTimer = some 0 then s.enterStopping .abandoned else s

/-- PAUSE_LIMIT_EXPIRY (R36). -/
def execPauseLimitExpiry (s : State) : Host.Outcome State Fault Refusal := .next s.pauseExpiry.endEvent

/-! ### The sample period (R6) -/

/-- The sample-paced completions that earlier periods left due, taken before the next period (log entry 4). A meter window and the stop
fade that complete on one sample have no order in the manual: the window first is the model's choice (DESIGN CHOICE, log entry 41). -/
def State.settleSamples (s : State) : State :=
  ((s.modifySnd Sound.settle).meterWindowComplete.endEvent).stopComplete.endEvent

/-- The Timeline takes the sample: p advances, and the chain follows when the slot has ended. A meter window that the same sample
completed may be taken before the chain (R6, R117, log entry 5). -/
def State.takeSample (s : State) : State :=
  if s.tl.mode = .advancing then
    let s := s.modifyTl fun t => { t with phase := t.phase + 1 }
    if s.tl.phase < s.tl.samplesPerFrame then s
    else
      let windowFirst := s.choice
      let s := s.chose
      let s := if windowFirst then s.meterWindowComplete.endEvent else s
      s.chain
  else s

/-- One sample period: the mix and the gains, the meter, the millisecond count, the Timeline (R6, R89, R110, R137). -/
def State.samplePeriod (s : State) : State :=
  let s := s.settleSamples
  let sources := s.sources
  let s := (s.modifySnd (Sound.samplePeriod sources)).meterSample sources
  (s.modifyCue fun x => { x with msTaken := x.msTaken + 1 }).takeSample

/-- SAMPLE_PERIOD: the sample clock runs in ACTIVE (R4, R6). -/
def execSamplePeriod (s : State) : Host.Outcome State Fault Refusal :=
  .next (if s.pwr.state = .active then s.samplePeriod.endEvent else s)

/-! ### SHOW LOAD (R23 to R25) -/

/-- Refuse a part BAD_FIELD, naming the entry and reel of the field, 255 where it has none (R24, log entry 12). -/
def State.badPart (s : State) (entry reel : Nat) : Answer := s.refuse .badField (beBytes 1 entry ++ beBytes 1 reel)

/-- The index of the next part expected, 0 when no build is in progress (R23). -/
def State.nextPart (s : State) : Nat := (s.ctl.build.map Build.next).getD 0

/-- Whether a build has all its entries and cues (R23). -/
def Build.complete (b : Build) : Bool := b.entries.length = b.entryCount && b.cues.length = b.cueCount.getD 0

/-- A build becomes the held programme; its cue list, if it carries one, replaces both cue lists (R25). -/
def State.install (s : State) (b : Build) : State :=
  let p : Programme := { id := b.id, pauseLimit := b.pauseLimit, entries := b.entries }
  let s := s.modifyCtl fun c => { c with state := .loaded, programme := some p, build := none }
  if b.cueCount.isSome then
    let l := b.cues.foldl (fun l c => insertCue c l) []
    s.modifyCue fun x => { x with live := l, waiting := l }
  else s

/-- A part accepted: the build goes on with the next part, or is installed (R23, R25). R188 gives the sum of the entries' totals no size:
its 4 bytes are the model's choice (DESIGN CHOICE, log entry 39). -/
def State.acceptPart (s : State) (b : Build) : Answer :=
  if b.complete then
    (s.install b).ok (beBytes 4 b.id ++ beBytes 1 b.entryCount ++ beBytes 4 (b.entries.map Entry.total).sum)
  else (s.modifyCtl fun c => { c with build := some b }).ok (beBytes 1 b.next)

/-- Part 0, the header: the checks of R24 in order, then a new build (R23). -/
def State.loadHeader (s : State) (id : Nat) (p : List Byte) : Answer :=
  let count := byteAt p 0
  let pause := field p 1 2
  let cues := byteAt p 3
  if p.length ≠ 4 then s.refuse .badLength
  else if count = 0 || 16 < count || 7200 < pause || (64 < cues && cues ≠ 255) then s.badPart 255 255
  else
    s.acceptPart { id := id, entryCount := count, pauseLimit := pause, cueCount := if cues = 255 then none else some cues,
                   entries := [], cues := [], next := 1 }

/-- Read `n` reel records and the flag bytes that stand in them; nothing when they do not fill the bytes exactly. An assist sound
track id is present when `assist` is 1 or 2 (section 12.5). -/
def readReels (assist : Nat) : (n : Nat) → (bs : List Byte) → Option (List (Reel × Nat))
  | 0, bs => if bs.isEmpty then some [] else none
  | n + 1, bs =>
    let sound := if assist = 1 || assist = 2 then 4 else 0
    let flags := byteAt bs (12 + sound)
    let main := if flags.testBit 0 then 4 else 0
    let other := if flags.testBit 1 then 4 else 0
    let size := 13 + sound + main + other
    if bs.length < size then none
    else
      (readReels assist n (bs.drop size)).map fun rest =>
        ({ duration := field bs 0 4, picture := field bs 4 4, mainSound := field bs 8 4,
           assistSound := if sound = 0 then none else some (field bs 12 4),
           mainSubtitle := if main = 0 then none else some (field bs (13 + sound) 4),
           assistSubtitle := if other = 0 then none else some (field bs (13 + sound + main) 4) }, flags) :: rest

/-- The key ids of an entry part. -/
def readKeys (n : Nat) (bs : List Byte) : List Id := (List.range n).map fun k => idField bs (16 * k)

/-- Whether a reel's fields are admitted: duration 1 to 250,000, no flag above bit 1 (R24, section 12.5). -/
def reelFits (x : Reel × Nat) : Bool := 1 ≤ x.1.duration && x.1.duration ≤ 250000 && x.2 ≤ 3

/-- An entry part: the checks of R24 in the order of its table, then the entry joins the build. -/
def State.loadEntry (s : State) (b : Build) (p : List Byte) : Answer :=
  let i := b.entries.length
  let main := byteAt p 18
  let assist := byteAt p 19
  let reelCount := byteAt p 20
  let keyCount := byteAt p 21
  let percentage := byteAt p 22
  let keys := readKeys keyCount (p.drop 23)
  if p.length < 23 + 16 * keyCount then s.refuse .badLength
  else match readReels assist reelCount (p.drop (23 + 16 * keyCount)) with
    | none => s.refuse .badLength
    | some reels =>
      match readEditRate (byteAt p 16), readRate (byteAt p 17) with
      | some editRate, some rate =>
        if main = 0 || 16 < main || 2 < assist || reelCount = 0 || 12 < reelCount then s.badPart i 255
        else match indexWhere (fun x => !reelFits x) reels with
          | some r => s.badPart i r
          | none =>
            if 3 < keyCount || (distinct keys).length < keyCount || 100 < percentage then s.badPart i 255
            else
              let e : Entry :=
                { composition := idField p 0, editRate := editRate, rate := rate, mainChannels := main,
                  assistChannels := assist, reels := reels.map Prod.fst, keys := keys,
                  percentage := if percentage = 0 then none else some percentage }
              s.acceptPart { b with entries := b.entries ++ [e], next := b.next + 1 }
      | _, _ => s.badPart i 255

/-- Read `n` cue records; nothing when one is refused or repeats a number already taken (R24, R138). -/
def CueUnit.readCues (x : CueUnit) : (n : Nat) → (taken : List Nat) → (bs : List Byte) → Option (List CueRecord)
  | 0, _, _ => some []
  | n + 1, taken, bs =>
    match x.readCue (bs.take 16) with
    | some c =>
      if c.number ∈ taken then none else (x.readCues n (c.number :: taken) (bs.drop 16)).map fun rest => c :: rest
    | none => none

/-- A cue part: the count that R24 requires, then the cues join the build. -/
def State.loadCues (s : State) (b : Build) (p : List Byte) : Answer :=
  let n := byteAt p 0
  let lacking := b.cueCount.getD 0 - b.cues.length
  if p.length = 0 || p.length ≠ 1 + 16 * n then s.refuse .badLength
  else if n ≠ min 32 lacking then s.badPart 255 255
  else match s.cue.readCues n (b.cues.map CueRecord.number) (p.drop 1) with
    | none => s.badPart 255 255
    | some cues => s.acceptPart { b with cues := b.cues ++ cues, next := b.next + 1 }

/-- SHOW LOAD (R23). -/
def ownerShowLoad (p : List Byte) (s : State) : Answer :=
  if s.ctl.state ≠ .empty && s.ctl.state ≠ .loaded then s.refuse .busy
  else if p.length < 5 then s.refuse .badLength
  else if byteAt p 0 = 0 then s.loadHeader (field p 1 4) (p.drop 5)
  else match s.ctl.build with
    | none => s.refuse .badField [0]
    | some b =>
      if field p 1 4 ≠ b.id || byteAt p 0 ≠ b.next then s.refuse .badField (beBytes 1 b.next)
      else if b.entries.length < b.entryCount then s.loadEntry b (p.drop 5)
      else s.loadCues b (p.drop 5)

/-- SHOW LOAD (R23). -/
def execShowLoad (tag : Byte) (payload : List Byte) (s : State) : Host.Outcome State Fault Refusal :=
  request 16 ownerShowLoad tag payload s

/-- SHOW UNLOAD (R26). -/
def ownerShowUnload (p : List Byte) (s : State) : Answer :=
  match s.ctl.state with
  | .empty => s.refuse .notFound
  | .loaded => bare (fun s => (s.modifyCtl fun c => { c with state := .empty, programme := none }).ok) p s
  | .arming | .armed | .running | .paused | .stopping => s.refuse .busy

/-- SHOW UNLOAD (R26). -/
def execShowUnload (tag : Byte) (payload : List Byte) (s : State) : Host.Outcome State Fault Refusal :=
  request 17 ownerShowUnload tag payload s

/-! ### SHOW ARM (R28 to R30) -/

/-- Whether any reel of an entry holds a subtitle track id (R22). -/
def Entry.hasSubtitle (e : Entry) : Bool := e.reels.any fun r => r.mainSubtitle.isSome || r.assistSubtitle.isSome

/-- The track kinds present in an entry (R22). -/
def Entry.kinds (e : Entry) : List TrackKind :=
  if e.hasSubtitle then [.picture, .sound, .subtitle] else [.picture, .sound]

/-- Whether a key id of an entry names a record bound to it whose scope meets its track kinds (check 4 of R29). -/
def State.keyBound (s : State) (e : Entry) (id : Id) : Bool :=
  (s.keys.find id).any fun k => k.composition = e.composition && e.kinds.any k.covers

/-- Whether the keys of an entry together cover its track kinds (check 4 of R29). -/
def State.keysCover (s : State) (e : Entry) : Bool :=
  e.kinds.all fun t => e.keys.any fun id => (s.keys.find id).any fun k => k.covers t

/-- The key of an entry that fails check 4: the first one not bound, else the first of a list that falls short (R29). -/
def State.missingKey (s : State) (e : Entry) : Option Id :=
  match e.keys.find? fun id => !s.keyBound e id with
  | some id => some id
  | none => if s.keysCover e then none else e.keys.head?

/-- The number of counted entries that name a key: c of check 6 (R29). -/
def Programme.counted (p : Programme) (id : Id) : Nat :=
  p.entries.countP fun e => e.percentage.isSome && decide (id ∈ e.keys)

/-- Whether a key's allowance would be exceeded by the counted entries (check 6 of R29). -/
def State.exceeds (s : State) (p : Programme) (id : Id) : Bool :=
  (s.keys.find id).any fun k => k.allowance.any fun n => n < k.charged + p.counted id

/-- The first entry, and the key of it, that fails a check, in the order of R28. -/
def Programme.firstKey (p : Programme) (fails : Entry → Option Id) : Option (Nat × Id) :=
  (indexed p.entries).findSome? fun (i, e) => (fails e).map fun id => (i, id)

/-- The distinct key ids of a programme, in the order of R28 (R30). -/
def Programme.pinSet (p : Programme) : List Id := distinct (p.entries.flatMap Entry.keys)

/-- The first failing check of SHOW ARM, with its status and reply data (R28, R29). -/
def State.armCheck (s : State) (p : Programme) : Option (Status × List Byte) :=
  let named (st : Status) (x : Nat × Id) : Option (Status × List Byte) := some (st, beBytes 1 x.1 ++ idBytes x.2)
  if s.pwr.state ≠ .active then some (.notActive, [])
  else if !s.pwr.clockSet then some (.clockNotSet, [])
  else match indexWhere (fun e => some e.rate ≠ p.entries.head?.map Entry.rate) p.entries with
    | some i => some (.mixedRate, beBytes 1 i)
    | none =>
      match p.firstKey s.missingKey with
      | some x => named .keyMissing x
      | none =>
        match p.firstKey fun e => e.keys.find? fun id => !s.keys.valid id with
        | some x => named .keyNotValid x
        | none =>
          match p.firstKey fun e => e.keys.find? (s.exceeds p) with
          | some x => named .allowance x
          | none => if s.acct.full then some (.logFull, []) else none

/-- SHOW ARM accepted (R30). -/
def State.arm (s : State) (p : Programme) : State :=
  let s := s.setKeys (s.keys.pin p.pinSet)
  let s := s.modifyCtl fun c =>
    { c with state := .arming, build := none, pins := p.pinSet, armTimer := some Config.armTimeoutMs }
  s.armIntake.armSubtitles

/-- SHOW ARM in LOADED (R28). -/
def armLoaded (s : State) : Answer :=
  match s.ctl.programme with
  | none => s.refuse .notFound
  | some p =>
    match s.armCheck p with
    | some (st, data) => s.refuse st data
    | none => { state := s.arm p, status := .accepted, data := [] }

/-- SHOW ARM (R28). -/
def ownerShowArm (p : List Byte) (s : State) : Answer :=
  match s.ctl.state with
  | .empty => s.refuse .notFound
  | .loaded => bare armLoaded p s
  | .arming | .armed | .running | .paused | .stopping => s.refuse .busy

/-- SHOW ARM (R28). -/
def execShowArm (tag : Byte) (payload : List Byte) (s : State) : Host.Outcome State Fault Refusal :=
  request 18 ownerShowArm tag payload s

/-! ### The other show requests (R27, R33 to R38) -/

/-- SHOW START in ARMED (R33). -/
def startArmed (s : State) : Answer :=
  match s.failingPin with
  | some id => s.refuse .keyNotValid (idBytes id)
  | none => s.startShow.ok

/-- SHOW START (R33). -/
def ownerShowStart (p : List Byte) (s : State) : Answer :=
  if s.ctl.state = .armed then bare startArmed p s else s.refuse .busy

/-- SHOW START (R33). -/
def execShowStart (tag : Byte) (payload : List Byte) (s : State) : Host.Outcome State Fault Refusal :=
  request 19 ownerShowStart tag payload s

/-- SHOW START AT (R34). -/
def ownerShowStartAt (p : List Byte) (s : State) : Answer :=
  if s.ctl.state ≠ .armed then s.refuse .busy
  else if p.length ≠ 4 then s.refuse .badLength
  else if field p 0 4 ≤ s.pwr.clock then s.refuse .badField
  else (s.modifyCtl fun c => { c with schedule := some (field p 0 4) }).ok

/-- SHOW START AT (R34). -/
def execShowStartAt (tag : Byte) (payload : List Byte) (s : State) : Host.Outcome State Fault Refusal :=
  request 20 ownerShowStartAt tag payload s

/-- PAUSE (R35). -/
def ownerPause (p : List Byte) (s : State) : Answer :=
  if s.ctl.state = .running then bare (fun s => s.pauseShow.ok) p s else s.refuse .busy

/-- PAUSE (R35). -/
def execPause (tag : Byte) (payload : List Byte) (s : State) : Host.Outcome State Fault Refusal :=
  request 21 ownerPause tag payload s

/-- RESUME (R36). -/
def ownerResume (p : List Byte) (s : State) : Answer :=
  if s.ctl.state = .paused then bare (fun s => s.resumeShow.ok) p s else s.refuse .busy

/-- RESUME (R36). -/
def execResume (tag : Byte) (payload : List Byte) (s : State) : Host.Outcome State Fault Refusal :=
  request 22 ownerResume tag payload s

/-- STOP (R32, R37). -/
def ownerStop (p : List Byte) (s : State) : Answer :=
  if s.ctl.state.takesStop then bare (fun s => s.stopShow.ok) p s else s.refuse .busy

/-- STOP (R37). -/
def execStop (tag : Byte) (payload : List Byte) (s : State) : Host.Outcome State Fault Refusal :=
  request 23 ownerStop tag payload s

/-- HALT (R38). -/
def ownerHalt (s : State) : Answer := s.haltShow.ok

/-- HALT (R38). -/
def execHalt (tag : Byte) (payload : List Byte) (s : State) : Host.Outcome State Fault Refusal :=
  request 24 (bare ownerHalt) tag payload s

/-- The whole seconds of pause elapsed while PAUSED, saturating (R27, log entry 11). -/
def ShowControl.pausedSeconds (c : ShowControl) : Option Nat :=
  if c.state = .paused then some (min Config.maxCount16 (c.pausedMs / 1000)) else none

/-- SHOW QUERY (R27). Where no programme is held, in EMPTY, its id is absent and the entry count is sent as 0, without a presence byte:
the manual does not say, so it is the model's choice (DESIGN CHOICE, log entry 26). -/
def ownerShowQuery (s : State) : Answer :=
  let c := s.ctl
  s.ok (c.state.code :: (optBytes 4 (c.programme.map Programme.id) ++
    beBytes 1 ((c.programme.map fun p => p.entries.length).getD 0) ++ [outcomeCode c.outcome] ++ optBytes 4 c.schedule ++
    optBytes 2 c.pausedSeconds ++ optBytes 4 (c.build.map Build.id) ++ optBytes 1 (c.build.map Build.next) ++
    (match c.event with | none => 0 :: noSummary | some e => 1 :: e.summary)))

/-- SHOW QUERY (R27). -/
def execShowQuery (tag : Byte) (payload : List Byte) (s : State) : Host.Outcome State Fault Refusal :=
  request 25 (bare ownerShowQuery) tag payload s

end Sys2Proof.Machine
end

