-- ==== Sys2Proof/Machine/Booth.lean ====
section
/-!
DEFINITION. The booth inputs of the Cue Unit (R147 to R149), the requests INPUT CONFIG and CAPTURE READ, and MILLISECOND_BOUNDARY, at
which the inputs are sampled and every millisecond timer of the part counts down (R27, R64, R137).
-/
namespace Sys2Proof.Machine

/-! ### The filter (R147) -/

/-- One sample of an input's filter, and the edge it accepts: the first acceptance after a reset is none (R147). -/
def BoothInput.sample (v : Bool) (x : BoothInput) : BoothInput × Option Edge :=
  if x.accepted = some v then ({ x with run := 0, last := some v }, none)
  else
    let run := if x.run = 0 || x.last ≠ some v then 1 else x.run + 1
    if run < 3 then ({ x with run := run, last := some v }, none)
    else
      ({ x with accepted := some v, run := 0, last := some v },
       x.accepted.map fun _ => if v then .rise else .fall)

/-- Whether an accepted edge matches an input's setting (R148). -/
def Edge.matches (setting edge : Edge) : Bool := setting = .both || setting = edge

/-! ### Captures and actions (R148, R149) -/

/-- Fill an input's capture record (step 1 of R148). -/
def State.captureInput (s : State) (n : Nat) (edge : Edge) : State :=
  s.modifyCue fun x => { x with
    captures := updateAt
      (fun r => some { edge := edge, place := s.place, clock := s.pwr.clock, fresh := true,
                       count := satAdd8 ((r.map CaptureRecord.count).getD 0) 1 }) n x.captures }

/-- A START input (R33, R149). -/
def State.startInput (s : State) : State × InputResult :=
  if s.ctl.state = .armed then (s.attemptStart, if s.failingPin.isNone then .performed else .refused) else (s, .ignored)

/-- An action taken where its condition holds, IGNORED otherwise. -/
def State.actIf (s : State) (c : Bool) (f : State → State) : State × InputResult :=
  if c then (f s, .performed) else (s, .ignored)

/-- The action of an accepted matching edge, and its result; in READY only CAPTURE and EMERGENCY are acted on (R149). In STOPPING the
actions CAPTURE and METER are performed by the table of R149, although R40 has input actions other than EMERGENCY ignored there: the
model's choice between the two (DESIGN CHOICE, log entry 28). -/
def State.inputAction (s : State) (a : InputAction) : State × InputResult :=
  let active := s.pwr.state = .active
  match a with
  | .none => (s, .ignored)
  | .capture => (s, .performed)
  | .emergency => (s.haltShow, .performed)
  | .start => if active then s.startInput else (s, .ignored)
  | .pause => s.actIf (active && s.ctl.state = .running) State.pauseShow
  | .resume => s.actIf (active && s.ctl.state = .paused) State.resumeShow
  | .stop => s.actIf (active && s.ctl.state.takesStop) State.stopShow
  | .meter => s.actIf (active && s.meter.state = .idle) (State.triggerMeter · .input)

/-- Step 3 of R148: the INPUT details, and the INPUT source. -/
def State.reportInput (s : State) (n : Nat) (edge : Edge) (a : InputAction) (r : InputResult) : State :=
  let count := (s.cue.inputDetails.map InputDetails.count).getD 0
  (s.modifyCue fun x => { x with
    inputDetails := some { input := n, edge := edge, action := a, result := r, count := satAdd8 count 1 } }).raise .input

/-- An accepted edge of an input, an event of its own: without a match, or with action NONE, nothing further happens (R148). -/
def State.acceptEdge (s : State) (n : Nat) (x : BoothInput) (edge : Edge) : State :=
  if x.edge.matches edge && x.action ≠ .none then
    let (s, r) := (s.captureInput n edge).inputAction x.action
    (s.reportInput n edge x.action r).endEvent
  else s

/-- Sample one input line at a boundary (R147, R148). -/
def State.sampleInput (levels : BitVec 8) (s : State) (n : Nat) : State :=
  match s.cue.inputs[n]? with
  | none => s
  | some x =>
    let (y, edge) := x.sample (levels.getLsbD n)
    let s := s.modifyCue fun c => { c with inputs := updateAt (fun _ => y) n c.inputs }
    match edge with
    | some e => s.acceptEdge n y e
    | none => s

/-- Sample the eight input lines. Edges accepted on several inputs at one boundary are captured and acted on in input number order: the
manual gives none, so the order is the model's choice (DESIGN CHOICE, log entry 34). -/
def State.sampleInputs (s : State) (levels : BitVec 8) : State := (List.range 8).foldl (State.sampleInput levels) s

/-! ### The millisecond (R27, R64, R137) -/

/-- Whether a millisecond boundary can come: in ACTIVE when the sample periods of the millisecond have been taken, in READY from the
reference clock, not in NIGHT (R137). -/
def State.boundaryDue (s : State) : Bool :=
  match s.pwr.state with
  | .active => s.cue.msLength ≤ s.cue.msTaken
  | .ready => true
  | .night => false

/-- The next millisecond begins: in ACTIVE it lasts 48 or 96 sample periods, by the rate in force (R137). -/
def State.beginMillisecond (s : State) : State :=
  if s.pwr.state = .active then
    s.modifyCue fun x => { x with msTaken := x.msTaken - x.msLength, msLength := s.tl.rate.hz / 1000 }
  else s

/-- A running timer counts down by 1. -/
def tick (t : Option Nat) : Option Nat := t.map (· - 1)

/-- Every running timer counts down by 1, and a pause lasts one millisecond more (R27, R64, R137). -/
def State.countDown (s : State) : State :=
  let s := s.modifyCue fun x => { x with
    lines := x.lines.map fun l => { l with pulse := tick l.pulse }
    pairs := x.pairs.map fun p => { p with timer := tick p.timer } }
  let s := s.modifyCtl fun c => { c with
    armTimer := tick c.armTimer, pauseTimer := tick c.pauseTimer
    pausedMs := if c.state = .paused then c.pausedMs + 1 else c.pausedMs }
  s.setIntake { s.intake with slots := s.intake.slots.map (Option.map fun r => { r with timer := r.timer - 1 }) }

/-- Take every expiry that is due, each an event of its own with its own notices (R32, R36, R66, R142, R145, R169). The manual orders
none of them: pulses and dead times, then the arm timer, the pause limit and the storage slots 0 to 3 is the model's choice (DESIGN
CHOICE, log entry 29). -/
def State.settleTimers (s : State) : State :=
  let s := s.modifyCue fun x => (List.range 4).foldl (fun x k => x.deadExpiry k) ((List.range 8).foldl (fun x i => x.pulseExpiry i) x)
  let s := s.armExpiry.endEvent.pauseExpiry.endEvent
  (List.range Config.slotCount).foldl (fun s i => (s.storageTimeout i).endEvent) s

/-- A millisecond boundary. Expiries an earlier boundary left due are taken first (log entry 4); those that this one makes due are
taken before its inputs or after them, by their own commands (R12, R146, log entry 5). -/
def State.millisecond (s : State) (levels : BitVec 8) : State :=
  let s := s.settleTimers
  let s := s.beginMillisecond.countDown
  let expiriesFirst := s.choice
  let s := s.chose
  let s := if expiriesFirst then s.settleTimers else s
  s.sampleInputs levels

/-- MILLISECOND_BOUNDARY (R137, R147). -/
def execMillisecondBoundary (levels : BitVec 8) (s : State) : Host.Outcome State Fault Refusal :=
  .next (if s.boundaryDue then (s.millisecond levels).endEvent else s)

/-! ### Requests (R148) -/

/-- INPUT CONFIG (R148). -/
def ownerInputConfig (p : List Byte) (s : State) : Answer :=
  match readEdge (byteAt p 1), readInputAction (byteAt p 2) with
  | some e, some a =>
    if 7 < byteAt p 0 then s.refuse .badField
    else
      (s.modifyCue fun x => { x with
        inputs := updateAt (fun y => { y with edge := e, action := a }) (byteAt p 0) x.inputs }).ok
  | _, _ => s.refuse .badField

/-- INPUT CONFIG (R148). -/
def execInputConfig (tag : Byte) (payload : List Byte) (s : State) : Host.Outcome State Fault Refusal :=
  request 61 (sized 3 ownerInputConfig) tag payload s

/-- A capture record as CAPTURE READ returns it (R148, log entry 11). -/
def captureBytes : Option CaptureRecord → List Byte
  | none => 0 :: List.replicate 14 0
  | some r =>
    1 :: r.edge.code :: (optBytes 1 (r.place.map Prod.fst) ++ optBytes 4 (r.place.map Prod.snd) ++ beBytes 4 r.clock ++
      [flagByte r.fresh] ++ beBytes 1 r.count)

/-- The INPUT details as CAPTURE READ returns them. -/
def inputDetailBytes : Option InputDetails → List Byte
  | none => 0 :: noSummary
  | some d => 1 :: d.summary

/-- CAPTURE READ (R148). -/
def ownerCaptureRead (p : List Byte) (s : State) : Answer :=
  let n := byteAt p 0
  if 7 < n then s.refuse .badField
  else
    (s.modifyCue fun x => { x with
      captures := updateAt (Option.map fun r => { r with fresh := false, count := 0 }) n x.captures }).ok
      (captureBytes (s.cue.captures[n]?).join ++ inputDetailBytes s.cue.inputDetails)

/-- CAPTURE READ (R148). -/
def execCaptureRead (tag : Byte) (payload : List Byte) (s : State) : Host.Outcome State Fault Refusal :=
  request 62 (sized 1 ownerCaptureRead) tag payload s

end Sys2Proof.Machine
end

