-- ==== Sys2Proof/Machine/Power.lean ====
section
/-!
DEFINITION. The Power Controller (chapter 11): the booth clock and its hand-offs, the power states, restart, night wake and power-on,
with the requests CLOCK SET, WAKE AT, READY, ACTIVE, NIGHT and RESTART; and the requests of the Notice Unit, the fault capture and
STATUS.
-/
namespace Sys2Proof.Machine

/-- Change the Power Controller. -/
def State.modifyPwr (s : State) (f : Power → Power) : State := s.setPwr (f s.pwr)

/-- Change the Control Link Interface. -/
def State.modifyLink (s : State) (f : Link → Link) : State := s.setLink (f s.link)

/-! ### Restart and power-on (R180, R181) -/

/-- The log after step 1 of a restart: an open record is closed INTERRUPTED at the Timeline's F and the booth clock (R160). -/
def State.restartAccounting (s : State) : Accounting :=
  let a := s.acct.close s.tl.frame s.pwr.clock (some .interrupted)
  { a with count := none, logDetails := if s.acct.opened.isSome && a.full then some a.summarise else none }

/-- Steps 1 to 5 of a restart, or of a night wake when a cause is given (R179, R180). -/
def State.resetBlocks (s : State) (wake : Option WakeCause) : State :=
  { s with
    tl := .reset, ctl := .reset, keys := s.keys.restart, intake := .reset, pic := .reset, snd := .reset, meter := .reset,
    subs := .reset, cue := s.cue.restart wake.isSome, acct := s.restartAccounting, caps := .reset, notice := .reset,
    pwr := { s.pwr with state := .active, transition := .none, woke := wake.isSome, wake := wake.map fun c => (c, s.pwr.clock) }
    link := .reset s.link.strap
    ports := { s.ports with overlay := s.ports.overlay ++ [.clearAll], assist := s.ports.assist ++ [.clearAll] } }

/-- A restart, taken whole; its last step makes the raisings owed to it: LOG, and WAKE for a night wake (R179, R180). -/
def State.restartPart (s : State) (wake : Option WakeCause) : State :=
  let s := s.resetBlocks wake
  let s := if s.acct.logDetails.isSome then s.raise .log else s
  if wake.isSome then s.raise .wake else s

/-- WAKE_LINE_FALL: a night wake in NIGHT, disregarded otherwise (R179). -/
def execWakeLineFall (s : State) : Host.Outcome State Fault Refusal :=
  .next (if s.pwr.state = .night then (s.restartPart (some .line)).endEvent else s)

/-- RESET_LINE_ASSERT: a night wake in NIGHT, a restart in ACTIVE and READY (R179, R180). -/
def execResetLineAssert (s : State) : Host.Outcome State Fault Refusal :=
  .next (s.restartPart (if s.pwr.state = .night then some .reset else none)).endEvent

/-- Power-on: the retained domain is cleared too; the strap stands as it is, and the commands still to come stay (R181, log entry
21). -/
def State.powerOn (s : State) : State :=
  { State.reset with
    pending := s.pending, freeCount := s.freeCount, link := .reset s.link.strap
    ports := { s.ports with overlay := s.ports.overlay ++ [.clearAll], assist := s.ports.assist ++ [.clearAll] } }

/-- POWER_ON (R181). -/
def execPowerOn (s : State) : Host.Outcome State Fault Refusal := .next s.powerOn

/-! ### Entry into NIGHT (R178) -/

/-- NIGHT is entered in the event that sends the last byte of the NIGHT reply (R178). -/
def State.enterNight (s : State) : State :=
  let s := ((s.modifyCue CueUnit.latch).setNotice { s.notice with order := [] }).modifyMeter (Meter.abandon .off)
  let s := (s.modifySnd Sound.silence).modifyLink fun l =>
    { l with receiver := .awaiting, queue := [], reply := none, overflow := [], ahead := 0, transmitter := none }
  s.modifyPwr fun p => { p with state := .night, transition := .none }

/-! ### The booth clock (R173 to R175) -/

/-- The wake test: a wake time reached is spent, and in NIGHT it wakes the part (R175). -/
def State.wakeTest (s : State) : State :=
  match s.pwr.wakeTime with
  | some t =>
    if t ≤ s.pwr.clock then
      let s := s.modifyPwr fun p => { p with wakeTime := none }
      if s.pwr.state = .night then s.restartPart (some .time) else s
    else s
  | none => s

/-- The hand-offs of a second event and of a CLOCK SET, which carry no order among themselves (R173, log entry 5). -/
def State.clockEvent (s : State) : State :=
  let keysFirst := s.choice
  let s := s.chose
  if keysFirst then s.evaluateKeys.scheduledStart.wakeTest else s.scheduledStart.wakeTest.evaluateKeys

/-- BOOTH_CLOCK_SECOND: the clock increases by 1, holding at its largest value, and the event is handed on (R173). -/
def State.boothSecond (s : State) : State :=
  (s.modifyPwr fun p => { p with clock := min Config.maxWord32 (p.clock + 1) }).clockEvent

/-- BOOTH_CLOCK_SECOND (R173). -/
def execBoothClockSecond (s : State) : Host.Outcome State Fault Refusal := .next s.boothSecond.endEvent

/-- CLOCK SET (R174). -/
def ownerClockSet (p : List Byte) (s : State) : Answer :=
  let before := s.pwr.clock
  let after := field p 0 4
  ((s.modifyPwr fun q => { q with clock := after, clockSet := true }).clockEvent).ok (beBytes 4 before ++ beBytes 4 after)

/-- CLOCK SET (R174). -/
def execClockSet (tag : Byte) (payload : List Byte) (s : State) : Host.Outcome State Fault Refusal :=
  request 8 (sized 4 ownerClockSet) tag payload s

/-- WAKE AT (R175). -/
def ownerWakeAt (p : List Byte) (s : State) : Answer :=
  let t := field p 1 4
  let set (w : Option Nat) : Answer := (s.modifyPwr fun q => { q with wakeTime := w }).ok (optBytes 4 w)
  match readFlag (byteAt p 0) with
  | none => s.refuse .badField
  | some false => if t = 0 then set none else s.refuse .badField
  | some true => if t ≤ s.pwr.clock then s.refuse .badField else set (some t)

/-- WAKE AT (R175). -/
def execWakeAt (tag : Byte) (payload : List Byte) (s : State) : Host.Outcome State Fault Refusal :=
  request 9 (sized 5 ownerWakeAt) tag payload s

/-! ### Power states (R176, R177, R180) -/

/-- Power state and show state, as an OK reply carries them (R176). -/
def State.powerBytes (s : State) : List Byte := [s.pwr.state.code, s.ctl.state.code]

/-- Whether the show is EMPTY or LOADED. -/
def ShowState.atRest (st : ShowState) : Bool := st = .empty || st = .loaded

/-- Entry into READY (R103, R114, R176). -/
def State.enterReady (s : State) : State :=
  ((s.modifySnd Sound.quiesce).modifyMeter (Meter.abandon .off)).modifyPwr fun p => { p with state := .ready }

/-- Return to ACTIVE: the outputs run again, the Level Monitor is IDLE, and the millisecond is counted in sample periods again
(R137, R176). -/
def State.enterActive (s : State) : State :=
  let s := (s.modifySnd fun x => { x with running := true }).modifyMeter fun x => { x with state := .idle }
  (s.modifyCue fun x => { x with msTaken := 0, msLength := s.tl.rate.hz / 1000 }).modifyPwr fun p => { p with state := .active }

/-- READY (R176). -/
def ownerReady (p : List Byte) (s : State) : Answer :=
  if s.pwr.state = .active then
    if s.ctl.state.atRest then
      bare (fun s =>
        let s := s.enterReady
        s.ok s.powerBytes) p s
    else s.refuse .busy
  else bare (fun s => s.ok s.powerBytes) p s

/-- READY (R176). -/
def execReady (tag : Byte) (payload : List Byte) (s : State) : Host.Outcome State Fault Refusal :=
  request 10 ownerReady tag payload s

/-- ACTIVE (R176). -/
def ownerActive (s : State) : Answer :=
  let s := if s.pwr.state = .ready then s.enterActive else s
  s.ok s.powerBytes

/-- ACTIVE (R176). -/
def execActive (tag : Byte) (payload : List Byte) (s : State) : Host.Outcome State Fault Refusal :=
  request 11 (bare ownerActive) tag payload s

/-- NIGHT: in ACTIVE BUSY unless the show is EMPTY or LOADED; accepted, the transition is pending and the frames and OVERFLOW
replies that wait are discarded (R176, R177). An OVERFLOW reply already in the transmitter leaves the list but goes out whole
(DEDUCED, log entry 43). -/
def ownerNight (p : List Byte) (s : State) : Answer :=
  if s.pwr.state = .active && !s.ctl.state.atRest then s.refuse .busy
  else
    bare (fun s =>
      ((s.modifyPwr fun q => { q with transition := .night }).modifyLink fun l =>
        { l with queue := [], overflow := [], ahead := 0 }).ok (s.powerBytes ++ optBytes 4 s.pwr.wakeTime)) p s

/-- NIGHT (R177). -/
def execNight (tag : Byte) (payload : List Byte) (s : State) : Host.Outcome State Fault Refusal :=
  request 12 ownerNight tag payload s

/-- RESTART: the transition is pending and the OVERFLOW replies that wait are discarded (R180). An OVERFLOW reply already in the
transmitter leaves the list but goes out whole (DEDUCED, log entry 43). -/
def ownerRestart (s : State) : Answer :=
  ((s.modifyPwr fun q => { q with transition := .restart }).modifyLink fun l => { l with overflow := [], ahead := 0 }).ok

/-- RESTART (R180). -/
def execRestart (tag : Byte) (payload : List Byte) (s : State) : Host.Outcome State Fault Refusal :=
  request 13 (bare ownerRestart) tag payload s

/-! ### STATUS (R186) -/

/-- STATUS's reply data, in the order of R186. -/
def State.statusBytes (s : State) : List Byte :=
  beBytes 2 0x0416 ++ [1] ++ s.powerBytes ++ [s.tl.mode.code] ++ beBytes 1 s.tl.entry ++ beBytes 1 s.tl.reel ++
    beBytes 4 s.tl.frame ++ beBytes 2 s.tl.samplesPerFrame ++ [s.tl.rate.code] ++ beBytes 4 s.pwr.clock ++
    [flagByte s.pwr.clockSet] ++ optBytes 4 s.pwr.wakeTime ++ [flagByte s.pwr.woke] ++
    [((s.pwr.wake.map Prod.fst).map WakeCause.code).getD 0] ++ beBytes 4 ((s.pwr.wake.map Prod.snd).getD 0) ++
    [s.link.rate.code] ++ beBytes 1 s.notice.order.length

/-- STATUS (R186). -/
def ownerStatus (s : State) : Answer := s.ok s.statusBytes

/-- STATUS (R186). -/
def execStatus (tag : Byte) (payload : List Byte) (s : State) : Host.Outcome State Fault Refusal :=
  request 1 (bare ownerStatus) tag payload s

/-! ### Fault capture and notices (R167, R171, R172) -/

/-- FAULT READ (R167). -/
def ownerFaultRead (p : List Byte) (s : State) : Answer :=
  match readCaptureUnit (byteAt p 0) with
  | none => s.refuse .badField
  | some u => s.ok (faultBytes (s.caps.get u))

/-- FAULT READ (R167). -/
def execFaultRead (tag : Byte) (payload : List Byte) (s : State) : Host.Outcome State Fault Refusal :=
  request 4 (sized 1 ownerFaultRead) tag payload s

/-- FAULT CLEAR: the reply carries the record as it stood, and the record becomes FREE (R167). -/
def ownerFaultClear (p : List Byte) (s : State) : Answer :=
  match readCaptureUnit (byteAt p 0) with
  | none => s.refuse .badField
  | some u => (s.setCaps (s.caps.set u none)).ok (faultBytes (s.caps.get u))

/-- FAULT CLEAR (R167). -/
def execFaultClear (tag : Byte) (payload : List Byte) (s : State) : Host.Outcome State Fault Refusal :=
  request 5 (sized 1 ownerFaultClear) tag payload s

/-- NOTICE CLEAR (R171). -/
def ownerNoticeClear (p : List Byte) (s : State) : Answer :=
  match readSource (byteAt p 0) with
  | none => s.refuse .badField
  | some src =>
    let s := s.withdraw src
    s.ok s.notice.orderBytes

/-- NOTICE CLEAR (R171). -/
def execNoticeClear (tag : Byte) (payload : List Byte) (s : State) : Host.Outcome State Fault Refusal :=
  request 3 (sized 1 ownerNoticeClear) tag payload s

/-- Every source takes the enable of a set; one that is pending and becomes disabled is withdrawn (R172). -/
def State.setEnables (s : State) (set : BitVec 13) : State :=
  (Source.all.filter fun src => !set.getLsbD src.num).foldl State.withdraw (s.setNotice { s.notice with enables := set })

/-- NOTICE ENABLE (R172). -/
def ownerNoticeEnable (p : List Byte) (s : State) : Answer :=
  if 2 ^ 13 ≤ field p 0 2 then s.refuse .badField
  else
    let set := BitVec.ofNat 13 (field p 0 2)
    let s := s.setEnables set
    s.ok (beBytes 2 set.toNat ++ s.notice.orderBytes)

/-- NOTICE ENABLE (R172). -/
def execNoticeEnable (tag : Byte) (payload : List Byte) (s : State) : Host.Outcome State Fault Refusal :=
  request 2 (sized 2 ownerNoticeEnable) tag payload s

end Sys2Proof.Machine
end

