-- ==== Sys2Proof/Machine/Formats.lean ====
section
/-!
DEFINITION. The bytes of what the part sends, on each of its links (section 12.5, R182, R187).
-/
namespace Sys2Proof.Machine

/-- A control frame on the line: length, kind, tag, payload, check (R182, section 12.5). -/
def Frame.bytes (f : Frame) : List Byte := withCrc (beBytes 2 (2 + f.payload.length) ++ f.kind :: f.tag :: f.payload)

/-- A READ record (section 12.5). -/
def ReadRecord.bytes (r : ReadRecord) : List Byte :=
  1 :: (beBytes 2 r.seq.toNat ++ beBytes 4 r.trackId ++ beBytes 4 r.unit)

/-- The nibbles of a byte on SDO and SDI, the high one first (R187). -/
def nibbles (b : Byte) : List (BitVec 4) := [b.extractLsb' 4 4, b.extractLsb' 0 4]

/-- A record of type, content length in `k` bytes, content and CRC (R187, section 12.5). -/
def recordBytes (k : Nat) (type : Byte) (content : List Byte) : List Byte :=
  withCrc (type :: (beBytes k content.length ++ content))

/-- A record on the picture link (section 12.5). -/
def PictureRecord.bytes : PictureRecord → List Byte
  | .start e => recordBytes 4 1 (beBytes 1 e)
  | .rate e => recordBytes 4 2 (beBytes 1 e)
  | .picture pos data => recordBytes 4 3 (beBytes 1 pos.entry ++ beBytes 1 pos.reel ++ beBytes 4 pos.unit ++ data)
  | .again i f => recordBytes 4 4 (beBytes 1 i ++ beBytes 4 f)
  | .finish => recordBytes 4 5 []

/-- A record on the overlay link or the assist caption output (section 12.5). -/
def SubtitleRecord.bytes : SubtitleRecord → List Byte
  | .present i e =>
    recordBytes 2 1 (beBytes 4 e.number ++ beBytes 1 i ++ beBytes 4 e.inFrame ++ beBytes 4 e.outFrame ++ beBytes 4 e.fadeIn ++
      beBytes 4 e.fadeOut ++ beBytes 1 e.region ++ beBytes 1 e.style ++ beBytes 1 e.text.length ++ e.text)
  | .cut i r f => recordBytes 2 2 (beBytes 1 i ++ beBytes 1 r ++ beBytes 4 f)
  | .clearAll => recordBytes 2 3 []

end Sys2Proof.Machine
end

