-- ==== Sys2Proof/Machine/Link.lean ====
section
/-!
DEFINITION. The Control Link Interface (chapter 12): the receiver, the receive queue and its overflow, the end of a transmission, and
the takes of frames that no block owns.
-/
namespace Sys2Proof.Machine

/-! ### The receiver (R183) -/

/-- The length field of a frame in progress, 0 when not yet received (R183). -/
def lengthField (bs : List Byte) : Nat := if bs.length < 2 then 0 else field bs 0 2

/-- The 6-byte detail of a link fault: bytes received, length field, kind, tag, each 0 when not yet received (R183). -/
def linkDetail (bs : List Byte) : List Byte :=
  beBytes 2 bs.length ++ beBytes 2 (lengthField bs) ++ [(bs[2]?).getD 0, (bs[3]?).getD 0]

/-- The receiver's new state. -/
def State.setReceiver (s : State) (r : Receiver) : State := s.modifyLink fun l => { l with receiver := r }

/-- A frame in progress is discarded by a fault, which is offered to the LINK capture (R183). -/
def State.linkFault (s : State) (cause : FaultCause) (bs : List Byte) (r : Receiver) : State :=
  ((s.setReceiver r).offer .link .frame cause (linkDetail bs)).endEvent

/-- The frame of a whole frame's bytes (section 12.5). -/
def readFrame (bs : List Byte) : Frame :=
  { kind := (bs[2]?).getD 0, tag := (bs[3]?).getD 0, payload := (bs.drop 4).take (lengthField bs - 2) }

/-- The OVERFLOW reply to a frame (R184). -/
def overflowReply (f : Frame) : Frame := { kind := replyKind f.kind, tag := f.tag, payload := [Status.overflow.code] }

/-- A completed frame joins the receive queue, is answered OVERFLOW, or is discarded (R184). -/
def Link.join (f : Frame) (l : Link) : Link :=
  if l.queue.length < Config.receiveCapacity then { l with queue := l.queue ++ [f] }
  else if f.kind.toNat < 128 && l.overflow.length < Config.receiveCapacity then
    { l with overflow := l.overflow ++ [overflowReply f] }
  else l

/-- A frame completes; while a transition is pending it is discarded (R177, R183). -/
def State.completeFrame (s : State) (f : Frame) : State :=
  if s.pwr.transition = .none then (s.modifyLink (Link.join f)).endEvent else s

/-- Whether a length field is out of range (R183). -/
def badLengthField (n : Nat) : Bool := n < 2 || 1026 < n

/-- Whether the check of a whole frame's bytes matches (R182, R183). -/
def checkMatches (bs : List Byte) : Bool :=
  crc16 (bs.take (lengthField bs + 2)) = BitVec.ofNat 16 (field bs (lengthField bs + 2) 2)

/-- The receiver takes one byte (R183). -/
def State.receiveByte (s : State) (b : Byte) : State :=
  match s.link.receiver with
  | .awaiting => s.setReceiver (.receiving [b])
  | .discarding => s
  | .receiving before =>
    let bs := before ++ [b]
    if bs.length = 2 && badLengthField (lengthField bs) then s.linkFault .length bs .discarding
    else if bs.length < 2 || bs.length < lengthField bs + 4 then s.setReceiver (.receiving bs)
    else if checkMatches bs then (s.setReceiver .awaiting).completeFrame (readFrame bs)
    else s.linkFault .check bs .awaiting

/-- The receiver takes bytes without a gap over 5 ms between them; in NIGHT they are ignored (R183). -/
def State.receive (s : State) (bytes : List Byte) : State :=
  if s.pwr.state = .night then s else bytes.foldl State.receiveByte s

/-- A gap over 5 ms: a partial frame is discarded with fault TIMEOUT, DISCARDING ends (R183). -/
def State.receiveGap (s : State) : State :=
  match s.link.receiver with
  | .awaiting => s
  | .discarding => s.setReceiver .awaiting
  | .receiving bs => s.linkFault .timeout bs .awaiting

/-- FRAME_RECEIVED (R183, R184). -/
def execFrameReceived (bytes : List Byte) (s : State) : Host.Outcome State Fault Refusal := .next (s.receive bytes)

/-- LENGTH_FAULT (R183): the bytes bring the length field in. -/
def execLengthFault (bytes : List Byte) (s : State) : Host.Outcome State Fault Refusal := .next (s.receive bytes)

/-- LINK_GAP_TIMEOUT (R183): bytes, then a gap over 5 ms. -/
def execLinkGapTimeout (bytes : List Byte) (s : State) : Host.Outcome State Fault Refusal :=
  .next (if s.pwr.state = .night then s else (s.receive bytes).receiveGap)

/-! ### The transmitter (R170, R178, R180) -/

/-- Mark the pending source whose notice has gone out as SENT (R170). -/
def Notices.markSent (src : Source) (n : Notices) : Notices :=
  { n with order := n.order.map fun e => if e.source = src then { e with mark := .sent } else e }

/-- The last byte of the buffered reply has left: the buffer empties, and a pending transition is taken (R178, R180, R184). -/
def State.replySent (s : State) : State :=
  let s := s.modifyLink fun l => { l with reply := none }
  match s.pwr.transition with
  | .none => s.endEvent true
  | .night => s.enterNight
  | .restart => (s.restartPart none).endEvent

/-- The frame in the transmitter has left it whole (R170, R184), an OVERFLOW reply too that an accepted NIGHT or RESTART took off the
list while it was being sent (DEDUCED, log entry 43). -/
def State.transmitComplete (s : State) : State :=
  match s.link.transmitter with
  | none => s
  | some (t, f) =>
    let s := (s.setPorts { s.ports with control := s.ports.control ++ [f] }).modifyLink fun l => { l with transmitter := none }
    match t with
    | .reply => s.replySent
    | .overflow => (s.modifyLink fun l => { l with overflow := l.overflow.tail, ahead := l.ahead - 1 }).endEvent true
    | .notice src => (s.setNotice (s.notice.markSent src)).endEvent
    | .withdrawn => s.endEvent

/-- TRANSMIT_COMPLETE (R170). -/
def execTransmitComplete (s : State) : Host.Outcome State Fault Refusal := .next s.transmitComplete

/-! ### Frames without an owner (R184) -/

/-- The request kinds of the message catalogue (section 12.4). -/
def ownedKinds : List Nat :=
  [1, 2, 3, 4, 5, 8, 9, 10, 11, 12, 13, 16, 17, 18, 19, 20, 21, 22, 23, 24, 25, 26, 27, 32, 33, 34, 35, 36, 40, 41, 42, 43, 44, 45,
   46, 47, 48, 50, 51, 56, 57, 58, 59, 60, 61, 62, 63, 64, 65, 72, 73, 74]

/-- Whether a kind is 0, or 1 to 127 without an owner (R184). -/
def unknown (kind : Byte) : Bool := kind.toNat < 128 && !(kind.toNat ∈ ownedKinds)

/-- UNKNOWN_KIND (R184). -/
def execUnknownKind (kind tag : Byte) (payload : List Byte) (s : State) : Host.Outcome State Fault Refusal :=
  if unknown kind then request kind (fun _ s => s.refuse .unknownKind) tag payload s else .next s

/-- REPLY_KIND_FRAME_DISCARD: a frame of kind 128 to 255 is taken and discarded without reply (R184). -/
def execReplyKindFrameDiscard (kind tag : Byte) (payload : List Byte) (s : State) : Host.Outcome State Fault Refusal :=
  .next (if 128 ≤ kind.toNat && s.takes { kind := kind, tag := tag, payload := payload } then s.dequeue else s)

end Sys2Proof.Machine
end

