-- ==== Sys2Proof/Machine/Dispatch.lean ====
section
/-!
DEFINITION. One arm per command, each one direct call of its meaning.
-/
namespace Sys2Proof.Machine

/-- The effect of a command on everything but the queue of commands. -/
def exec (i : Instr) (s : State) : Host.Outcome State Fault Refusal :=
  match i with
  | .status tag payload => Sys2Proof.Machine.execStatus tag payload s
  | .noticeEnable tag payload => Sys2Proof.Machine.execNoticeEnable tag payload s
  | .noticeClear tag payload => Sys2Proof.Machine.execNoticeClear tag payload s
  | .faultRead tag payload => Sys2Proof.Machine.execFaultRead tag payload s
  | .faultClear tag payload => Sys2Proof.Machine.execFaultClear tag payload s
  | .clockSet tag payload => Sys2Proof.Machine.execClockSet tag payload s
  | .wakeAt tag payload => Sys2Proof.Machine.execWakeAt tag payload s
  | .ready tag payload => Sys2Proof.Machine.execReady tag payload s
  | .active tag payload => Sys2Proof.Machine.execActive tag payload s
  | .night tag payload => Sys2Proof.Machine.execNight tag payload s
  | .restart tag payload => Sys2Proof.Machine.execRestart tag payload s
  | .showLoad tag payload => Sys2Proof.Machine.execShowLoad tag payload s
  | .showUnload tag payload => Sys2Proof.Machine.execShowUnload tag payload s
  | .showArm tag payload => Sys2Proof.Machine.execShowArm tag payload s
  | .showStart tag payload => Sys2Proof.Machine.execShowStart tag payload s
  | .showStartAt tag payload => Sys2Proof.Machine.execShowStartAt tag payload s
  | .pause tag payload => Sys2Proof.Machine.execPause tag payload s
  | .resume tag payload => Sys2Proof.Machine.execResume tag payload s
  | .stop tag payload => Sys2Proof.Machine.execStop tag payload s
  | .halt tag payload => Sys2Proof.Machine.execHalt tag payload s
  | .showQuery tag payload => Sys2Proof.Machine.execShowQuery tag payload s
  | .cueEditWrite tag payload => Sys2Proof.Machine.execCueEditWrite tag payload s
  | .cueEditDelete tag payload => Sys2Proof.Machine.execCueEditDelete tag payload s
  | .cueList tag payload => Sys2Proof.Machine.execCueList tag payload s
  | .keyPut tag payload => Sys2Proof.Machine.execKeyPut tag payload s
  | .keyRemove tag payload => Sys2Proof.Machine.execKeyRemove tag payload s
  | .keyRevoke tag payload => Sys2Proof.Machine.execKeyRevoke tag payload s
  | .keyGet tag payload => Sys2Proof.Machine.execKeyGet tag payload s
  | .keyList tag payload => Sys2Proof.Machine.execKeyList tag payload s
  | .mapSet tag payload => Sys2Proof.Machine.execMapSet tag payload s
  | .fade tag payload => Sys2Proof.Machine.execFade tag payload s
  | .delaySet tag payload => Sys2Proof.Machine.execDelaySet tag payload s
  | .soundQuery tag payload => Sys2Proof.Machine.execSoundQuery tag payload s
  | .meterSet tag payload => Sys2Proof.Machine.execMeterSet tag payload s
  | .meterStart tag payload => Sys2Proof.Machine.execMeterStart tag payload s
  | .meterStop tag payload => Sys2Proof.Machine.execMeterStop tag payload s
  | .meterRead tag payload => Sys2Proof.Machine.execMeterRead tag payload s
  | .silenceSet tag payload => Sys2Proof.Machine.execSilenceSet tag payload s
  | .subtitleSet tag payload => Sys2Proof.Machine.execSubtitleSet tag payload s
  | .subtitleQuery tag payload => Sys2Proof.Machine.execSubtitleQuery tag payload s
  | .lineConfig tag payload => Sys2Proof.Machine.execLineConfig tag payload s
  | .line tag payload => Sys2Proof.Machine.execLine tag payload s
  | .linePulse tag payload => Sys2Proof.Machine.execLinePulse tag payload s
  | .pairConfig tag payload => Sys2Proof.Machine.execPairConfig tag payload s
  | .pair tag payload => Sys2Proof.Machine.execPair tag payload s
  | .inputConfig tag payload => Sys2Proof.Machine.execInputConfig tag payload s
  | .captureRead tag payload => Sys2Proof.Machine.execCaptureRead tag payload s
  | .emergencyConfig tag payload => Sys2Proof.Machine.execEmergencyConfig tag payload s
  | .holdRelease tag payload => Sys2Proof.Machine.execHoldRelease tag payload s
  | .lineQuery tag payload => Sys2Proof.Machine.execLineQuery tag payload s
  | .logRead tag payload => Sys2Proof.Machine.execLogRead tag payload s
  | .logCollect tag payload => Sys2Proof.Machine.execLogCollect tag payload s
  | .logStatus tag payload => Sys2Proof.Machine.execLogStatus tag payload s
  | .unknownKind kind tag payload => Sys2Proof.Machine.execUnknownKind kind tag payload s
  | .replyKindFrameDiscard kind tag payload => Sys2Proof.Machine.execReplyKindFrameDiscard kind tag payload s
  | .frameReceived bytes => Sys2Proof.Machine.execFrameReceived bytes s
  | .lengthFault bytes => Sys2Proof.Machine.execLengthFault bytes s
  | .linkGapTimeout bytes => Sys2Proof.Machine.execLinkGapTimeout bytes s
  | .transmitComplete => Sys2Proof.Machine.execTransmitComplete s
  | .storageData seq unit => Sys2Proof.Machine.execStorageData seq unit s
  | .storageError seq code => Sys2Proof.Machine.execStorageError seq code s
  | .storageRecordDiscard record => Sys2Proof.Machine.execStorageRecordDiscard record s
  | .storageLinkIdle => Sys2Proof.Machine.execStorageLinkIdle s
  | .storageTimeout slot => Sys2Proof.Machine.execStorageTimeout slot s
  | .sweepVisit => Sys2Proof.Machine.execSweepVisit s
  | .samplePeriod => Sys2Proof.Machine.execSamplePeriod s
  | .stopFadeComplete => Sys2Proof.Machine.execStopFadeComplete s
  | .gainFadeEnd gain => Sys2Proof.Machine.execGainFadeEnd gain s
  | .switchDownComplete output => Sys2Proof.Machine.execSwitchDownComplete output s
  | .switchUpComplete output => Sys2Proof.Machine.execSwitchUpComplete output s
  | .meterWindowComplete => Sys2Proof.Machine.execMeterWindowComplete s
  | .armTimeout => Sys2Proof.Machine.execArmTimeout s
  | .pauseLimitExpiry => Sys2Proof.Machine.execPauseLimitExpiry s
  | .boothClockSecond => Sys2Proof.Machine.execBoothClockSecond s
  | .millisecondBoundary levels => Sys2Proof.Machine.execMillisecondBoundary levels s
  | .pulseExpiry line => Sys2Proof.Machine.execPulseExpiry line s
  | .deadTimerExpiry pair => Sys2Proof.Machine.execDeadTimerExpiry pair s
  | .wakeLineFall => Sys2Proof.Machine.execWakeLineFall s
  | .resetLineAssert => Sys2Proof.Machine.execResetLineAssert s
  | .powerOn => Sys2Proof.Machine.execPowerOn s

end Sys2Proof.Machine
end

