-- ==== Sys2Proof/WellFormed.lean ====
section
/-!
DEFINITION. The commands that partners can send: a request fits one control frame, bytes of a frame are a frame, a record is one
the store can send. Commands without operands, and operands that are indexes of their own size, are well formed as they are.
-/
namespace Sys2Proof

open Machine

/-- The control frame a command takes from the receive queue; none for a command that takes none (R184). -/
def Instr.frame : Instr → Option Frame
  | .status tag payload => some { kind := 1, tag := tag, payload := payload }
  | .noticeEnable tag payload => some { kind := 2, tag := tag, payload := payload }
  | .noticeClear tag payload => some { kind := 3, tag := tag, payload := payload }
  | .faultRead tag payload => some { kind := 4, tag := tag, payload := payload }
  | .faultClear tag payload => some { kind := 5, tag := tag, payload := payload }
  | .clockSet tag payload => some { kind := 8, tag := tag, payload := payload }
  | .wakeAt tag payload => some { kind := 9, tag := tag, payload := payload }
  | .ready tag payload => some { kind := 10, tag := tag, payload := payload }
  | .active tag payload => some { kind := 11, tag := tag, payload := payload }
  | .night tag payload => some { kind := 12, tag := tag, payload := payload }
  | .restart tag payload => some { kind := 13, tag := tag, payload := payload }
  | .showLoad tag payload => some { kind := 16, tag := tag, payload := payload }
  | .showUnload tag payload => some { kind := 17, tag := tag, payload := payload }
  | .showArm tag payload => some { kind := 18, tag := tag, payload := payload }
  | .showStart tag payload => some { kind := 19, tag := tag, payload := payload }
  | .showStartAt tag payload => some { kind := 20, tag := tag, payload := payload }
  | .pause tag payload => some { kind := 21, tag := tag, payload := payload }
  | .resume tag payload => some { kind := 22, tag := tag, payload := payload }
  | .stop tag payload => some { kind := 23, tag := tag, payload := payload }
  | .halt tag payload => some { kind := 24, tag := tag, payload := payload }
  | .showQuery tag payload => some { kind := 25, tag := tag, payload := payload }
  | .cueEditWrite tag payload => some { kind := 26, tag := tag, payload := payload }
  | .cueEditDelete tag payload => some { kind := 26, tag := tag, payload := payload }
  | .cueList tag payload => some { kind := 27, tag := tag, payload := payload }
  | .keyPut tag payload => some { kind := 32, tag := tag, payload := payload }
  | .keyRemove tag payload => some { kind := 33, tag := tag, payload := payload }
  | .keyRevoke tag payload => some { kind := 34, tag := tag, payload := payload }
  | .keyGet tag payload => some { kind := 35, tag := tag, payload := payload }
  | .keyList tag payload => some { kind := 36, tag := tag, payload := payload }
  | .mapSet tag payload => some { kind := 40, tag := tag, payload := payload }
  | .fade tag payload => some { kind := 41, tag := tag, payload := payload }
  | .delaySet tag payload => some { kind := 42, tag := tag, payload := payload }
  | .soundQuery tag payload => some { kind := 43, tag := tag, payload := payload }
  | .meterSet tag payload => some { kind := 44, tag := tag, payload := payload }
  | .meterStart tag payload => some { kind := 45, tag := tag, payload := payload }
  | .meterStop tag payload => some { kind := 46, tag := tag, payload := payload }
  | .meterRead tag payload => some { kind := 47, tag := tag, payload := payload }
  | .silenceSet tag payload => some { kind := 48, tag := tag, payload := payload }
  | .subtitleSet tag payload => some { kind := 50, tag := tag, payload := payload }
  | .subtitleQuery tag payload => some { kind := 51, tag := tag, payload := payload }
  | .lineConfig tag payload => some { kind := 56, tag := tag, payload := payload }
  | .line tag payload => some { kind := 57, tag := tag, payload := payload }
  | .linePulse tag payload => some { kind := 58, tag := tag, payload := payload }
  | .pairConfig tag payload => some { kind := 59, tag := tag, payload := payload }
  | .pair tag payload => some { kind := 60, tag := tag, payload := payload }
  | .inputConfig tag payload => some { kind := 61, tag := tag, payload := payload }
  | .captureRead tag payload => some { kind := 62, tag := tag, payload := payload }
  | .emergencyConfig tag payload => some { kind := 63, tag := tag, payload := payload }
  | .holdRelease tag payload => some { kind := 64, tag := tag, payload := payload }
  | .lineQuery tag payload => some { kind := 65, tag := tag, payload := payload }
  | .logRead tag payload => some { kind := 72, tag := tag, payload := payload }
  | .logCollect tag payload => some { kind := 73, tag := tag, payload := payload }
  | .logStatus tag payload => some { kind := 74, tag := tag, payload := payload }
  | .unknownKind kind tag payload => some { kind := kind, tag := tag, payload := payload }
  | .replyKindFrameDiscard kind tag payload => some { kind := kind, tag := tag, payload := payload }
  | .frameReceived _ => none
  | .lengthFault _ => none
  | .linkGapTimeout _ => none
  | .transmitComplete => none
  | .storageData _ _ => none
  | .storageError _ _ => none
  | .storageRecordDiscard _ => none
  | .storageLinkIdle => none
  | .storageTimeout _ => none
  | .sweepVisit => none
  | .samplePeriod => none
  | .stopFadeComplete => none
  | .gainFadeEnd _ => none
  | .switchDownComplete _ => none
  | .switchUpComplete _ => none
  | .meterWindowComplete => none
  | .armTimeout => none
  | .pauseLimitExpiry => none
  | .boothClockSecond => none
  | .millisecondBoundary _ => none
  | .pulseExpiry _ => none
  | .deadTimerExpiry _ => none
  | .wakeLineFall => none
  | .resetLineAssert => none
  | .powerOn => none

/-- A payload fits a control frame (section 12.1). -/
def payloadFits (payload : List Byte) : Bool := payload.length ≤ 1024

/-- Bytes are those of one whole control frame, its check apart: the length field is in range and counts them (R183). -/
def wholeFrame (bytes : List Byte) : Bool := !badLengthField (lengthField bytes) && bytes.length = lengthField bytes + 4

/-- Bytes bring in a length field that is out of range (R183). -/
def badFrameStart (bytes : List Byte) : Bool := bytes.length = 2 && badLengthField (lengthField bytes)

/-- Bytes are fewer than a whole frame (R183). -/
def partialFrame (bytes : List Byte) : Bool :=
  bytes.length < 2 || (!badLengthField (lengthField bytes) && bytes.length < lengthField bytes + 4)

/-- A unit's length fits the length field of its DATA record (section 12.5). -/
def unitFits (unit : List Byte) : Bool := unit.length < 2 ^ 32

/-- Whether a command is one that a partner, a clock or the part itself can bring. -/
def Instr.wellFormed (i : Instr) : Bool :=
  match i with
  | .unknownKind kind _ payload => unknown kind && payloadFits payload
  | .replyKindFrameDiscard kind _ payload => 128 ≤ kind.toNat && payloadFits payload
  | .frameReceived bytes => wholeFrame bytes
  | .lengthFault bytes => badFrameStart bytes
  | .linkGapTimeout bytes => partialFrame bytes
  | .storageData _ unit => unitFits unit
  | .storageError _ code => errorCode code
  | .storageRecordDiscard record => discardsRecord record
  | .status _ payload => payloadFits payload
  | .noticeEnable _ payload => payloadFits payload
  | .noticeClear _ payload => payloadFits payload
  | .faultRead _ payload => payloadFits payload
  | .faultClear _ payload => payloadFits payload
  | .clockSet _ payload => payloadFits payload
  | .wakeAt _ payload => payloadFits payload
  | .ready _ payload => payloadFits payload
  | .active _ payload => payloadFits payload
  | .night _ payload => payloadFits payload
  | .restart _ payload => payloadFits payload
  | .showLoad _ payload => payloadFits payload
  | .showUnload _ payload => payloadFits payload
  | .showArm _ payload => payloadFits payload
  | .showStart _ payload => payloadFits payload
  | .showStartAt _ payload => payloadFits payload
  | .pause _ payload => payloadFits payload
  | .resume _ payload => payloadFits payload
  | .stop _ payload => payloadFits payload
  | .halt _ payload => payloadFits payload
  | .showQuery _ payload => payloadFits payload
  | .cueEditWrite _ payload => payloadFits payload
  | .cueEditDelete _ payload => payloadFits payload
  | .cueList _ payload => payloadFits payload
  | .keyPut _ payload => payloadFits payload
  | .keyRemove _ payload => payloadFits payload
  | .keyRevoke _ payload => payloadFits payload
  | .keyGet _ payload => payloadFits payload
  | .keyList _ payload => payloadFits payload
  | .mapSet _ payload => payloadFits payload
  | .fade _ payload => payloadFits payload
  | .delaySet _ payload => payloadFits payload
  | .soundQuery _ payload => payloadFits payload
  | .meterSet _ payload => payloadFits payload
  | .meterStart _ payload => payloadFits payload
  | .meterStop _ payload => payloadFits payload
  | .meterRead _ payload => payloadFits payload
  | .silenceSet _ payload => payloadFits payload
  | .subtitleSet _ payload => payloadFits payload
  | .subtitleQuery _ payload => payloadFits payload
  | .lineConfig _ payload => payloadFits payload
  | .line _ payload => payloadFits payload
  | .linePulse _ payload => payloadFits payload
  | .pairConfig _ payload => payloadFits payload
  | .pair _ payload => payloadFits payload
  | .inputConfig _ payload => payloadFits payload
  | .captureRead _ payload => payloadFits payload
  | .emergencyConfig _ payload => payloadFits payload
  | .holdRelease _ payload => payloadFits payload
  | .lineQuery _ payload => payloadFits payload
  | .logRead _ payload => payloadFits payload
  | .logCollect _ payload => payloadFits payload
  | .logStatus _ payload => payloadFits payload
  | .transmitComplete => true
  | .storageLinkIdle => true
  | .storageTimeout _ => true
  | .sweepVisit => true
  | .samplePeriod => true
  | .stopFadeComplete => true
  | .gainFadeEnd _ => true
  | .switchDownComplete _ => true
  | .switchUpComplete _ => true
  | .meterWindowComplete => true
  | .armTimeout => true
  | .pauseLimitExpiry => true
  | .boothClockSecond => true
  | .millisecondBoundary _ => true
  | .pulseExpiry _ => true
  | .deadTimerExpiry _ => true
  | .wakeLineFall => true
  | .resetLineAssert => true
  | .powerOn => true

end Sys2Proof
end

