-- ==== Sys2Proof/Safety.lean ====
section
/-!
DEFINITION. What counts as a safe run: the blocks an event may touch, what it is to answer a request, and the properties that every
step keeps (the rules of the manual about the whole part).
-/
namespace Sys2Proof.Machine

/-! ### Frames -/

/-- The pieces of the state, by name. -/
inductive Block where
  | pending | tl | ctl | keys | intake | pic | snd | meter | subs | cue | acct | caps | notice | pwr | link | ports | freeCount
deriving DecidableEq, Repr

/-- One piece of the state is the same in two states. -/
def State.same (s t : State) : Block → Prop
  | .pending => t.pending = s.pending
  | .tl => t.tl = s.tl
  | .ctl => t.ctl = s.ctl
  | .keys => t.keys = s.keys
  | .intake => t.intake = s.intake
  | .pic => t.pic = s.pic
  | .snd => t.snd = s.snd
  | .meter => t.meter = s.meter
  | .subs => t.subs = s.subs
  | .cue => t.cue = s.cue
  | .acct => t.acct = s.acct
  | .caps => t.caps = s.caps
  | .notice => t.notice = s.notice
  | .pwr => t.pwr = s.pwr
  | .link => t.link = s.link
  | .ports => t.ports = s.ports
  | .freeCount => t.freeCount = s.freeCount

/-- Between two states only the named pieces may differ. -/
def State.changesOnly (s t : State) (bs : List Block) : Prop := ∀ b : Block, b ∉ bs → s.same t b

/-- The summary of every pending source has been composed: so it is between events (R169). -/
def State.composed (s : State) : Bool := s.notice.order.all fun e => e.summary.isSome

/-- The request frame of a kind, tag and payload. -/
def requestFrame (kind tag : Byte) (payload : List Byte) : Frame := { kind := kind, tag := tag, payload := payload }

/-- A request was answered: its frame has left the receive queue, and the reply, with kind + 128, the same tag, the status byte and
the data, is in the reply buffer (R184, R185). The receiver, the overflow list and the line rate are as before. -/
def State.answered (s t : State) (f : Frame) (st : Status) (data : List Byte) : Prop :=
  t.link.reply = some { kind := f.kind + 128, tag := f.tag, payload := st.code :: data } ∧
  t.link.queue = s.link.queue.tail ∧ t.link.receiver = s.link.receiver ∧ t.link.overflow = s.link.overflow ∧
  t.link.rate = s.link.rate ∧ t.link.strap = s.link.strap

/-! ### The show (R2, R27, R155, R176) -/

/-- The Timeline mode of a show state (R2). -/
def ShowState.mode : ShowState → Mode
  | .empty | .loaded | .arming | .armed => .still
  | .running => .advancing
  | .paused | .stopping => .frozen

/-- Mode, outcome, held programme, schedule, timers and open record follow the show state, and outside ACTIVE, or with NIGHT
pending, the show is EMPTY or LOADED (R2, the table of section 2.3, R27, R155, R176, R177). -/
def State.showKept (s : State) : Prop :=
  s.tl.mode = s.ctl.state.mode ∧
  (s.ctl.outcome.isSome ↔ s.ctl.state = .stopping) ∧
  (s.ctl.programme.isSome ↔ s.ctl.state ≠ .empty) ∧
  (s.ctl.schedule.isSome → s.ctl.state = .armed) ∧
  (s.ctl.armTimer.isSome ↔ s.ctl.state = .arming) ∧
  (s.ctl.pauseTimer.isSome → s.ctl.state = .paused) ∧
  (s.acct.opened.isSome ↔ s.ctl.state.grace = true) ∧
  (s.pwr.state ≠ .active ∨ s.pwr.transition = .night → s.ctl.state.atRest = true)

/-! ### The position (R1, R5, R22) -/

/-- An entry with the fields that the rules below need: an edit rate of R22, and reels of at least one frame. -/
def Entry.sound (e : Entry) : Prop :=
  e.editRate ∈ [24, 25, 30, 48, 50, 60] ∧ e.reels ≠ [] ∧ ∀ r ∈ e.reels, 1 ≤ r.duration ∧ r.duration ≤ 250000

/-- The held programme and the build hold such entries, 1 to 16 of them when the programme is whole (R21 to R24). -/
def State.programmeKept (s : State) : Prop :=
  (∀ p, s.ctl.programme = some p → 1 ≤ p.entries.length ∧ p.entries.length ≤ 16 ∧ ∀ e ∈ p.entries, e.sound) ∧
  (∀ b, s.ctl.build = some b →
    1 ≤ b.entryCount ∧ b.entryCount ≤ 16 ∧ b.entries.length ≤ b.entryCount ∧ ∀ e ∈ b.entries, e.sound)

/-- The position of a showing: its entry is one of the programme's, with that entry's S and total; in RUNNING and PAUSED a slot is
in play, and in STOPPING a slot is in play or the entry was played to its end (R1, R2, R5). -/
def State.positionKept (s : State) : Prop :=
  s.tl.frame ≤ s.tl.total ∧
  (s.ctl.state.grace = true → ∃ e, s.entryAt s.tl.entry = some e ∧ s.tl.total = e.total ∧
    s.tl.samplesPerFrame = s.tl.rate.perFrame e.editRate) ∧
  (s.playing = true → s.tl.frame < s.tl.total ∧ s.tl.phase < s.tl.samplesPerFrame) ∧
  (s.ctl.state = .stopping →
    (s.tl.frame < s.tl.total ∧ s.tl.phase < s.tl.samplesPerFrame) ∨ (s.tl.frame = s.tl.total ∧ s.tl.phase = 0))

/-! ### Keys (R43, R48, R50, R54) -/

/-- 32 places, no id twice, the pinned records are those of the pin set, and a pin set is held from ARMING to STOPPING only. -/
def State.keysKept (s : State) : Prop :=
  s.keys.places.length = Config.keyPlaces ∧
  ((s.keys.places.filterMap id).map KeyRecord.id).Nodup ∧
  (∀ k, some k ∈ s.keys.places → (k.pinned = true ↔ k.id ∈ s.ctl.pins)) ∧
  (∀ i ∈ s.ctl.pins, (s.keys.find i).isSome) ∧
  (s.ctl.state.atRest = true → s.ctl.pins = [])

/-! ### Intake (R64, R67, R70, R79, R80) -/

/-- Queues, list and slots within their capacities; FETCHING from ARMING to PAUSED; in IDLE everything is empty. -/
def State.intakeKept (s : State) : Prop :=
  s.intake.pq.length ≤ 32 ∧ s.intake.sq0.length ≤ 64 ∧ s.intake.sq1.length ≤ 64 ∧ s.intake.requests.length ≤ 8 ∧
  s.intake.slots.length = 4 ∧ (∀ r, some r ∈ s.intake.slots → r.timer ≤ 250) ∧
  (s.intake.mode = .fetching ↔ s.ctl.state ∈ [ShowState.arming, .armed, .running, .paused]) ∧
  (s.intake.mode = .idle →
    s.intake.pq = [] ∧ s.intake.sq0 = [] ∧ s.intake.sq1 = [] ∧ s.intake.requests = [] ∧ ∀ x ∈ s.intake.slots, x = none)

/-! ### The showing log (R154, R155, R161) -/

/-- At most 48 records, only the newest of them open; in ARMING and ARMED there is room for one more. -/
def State.logKept (s : State) : Prop :=
  s.acct.log.length ≤ Config.logCapacity ∧ (∀ r ∈ s.acct.log.dropLast, r.outcome.isSome) ∧
  (∀ r ∈ s.acct.log, r.collected = true → r.outcome.isSome) ∧
  (s.ctl.state = .arming ∨ s.ctl.state = .armed → s.acct.full = false)

/-! ### Notices (R168, R169, R170) -/

/-- Each source at most once and so at most 13; only enabled sources; every summary composed; a notice in the transmitter is that
of an AWAITING source. -/
def State.noticesKept (s : State) : Prop :=
  (s.notice.order.map PendingSource.source).Nodup ∧ s.notice.order.length ≤ 13 ∧
  (∀ e ∈ s.notice.order, s.notice.isEnabled e.source = true ∧ e.summary.isSome) ∧
  (∀ src f, s.link.transmitter = some (.notice src, f) → ∃ e ∈ s.notice.order, e.source = src ∧ e.mark = .awaiting)

/-! ### The control link (R176, R183, R184) -/

/-- A frame in progress is shorter than its length field says, which is in range (R183). -/
def Receiver.kept : Receiver → Prop
  | .awaiting | .discarding => True
  | .receiving bs => bs ≠ [] ∧ (2 ≤ bs.length → badLengthField (lengthField bs) = false ∧ bs.length < lengthField bs + 4)

/-- Queue and overflow list within 4; the reply in the transmitter is the buffered one; a pending transition has its reply
buffered; in NIGHT the link is empty. -/
def State.linkKept (s : State) : Prop :=
  s.link.queue.length ≤ 4 ∧ s.link.overflow.length ≤ 4 ∧ s.link.ahead ≤ s.link.overflow.length ∧ s.link.receiver.kept ∧
  (∀ f, s.link.transmitter = some (.reply, f) → s.link.reply = some f) ∧
  (s.pwr.transition ≠ .none → s.link.reply.isSome ∧ s.pwr.state ≠ .night) ∧
  (s.pwr.state = .night → s.link.receiver = .awaiting ∧ s.link.queue = [] ∧ s.link.reply = none ∧ s.link.overflow = [] ∧
    s.link.transmitter = none)

/-! ### Cue lines (R137, R145) -/

/-- A pair record and its two lines agree with the table of R145: in an enabled pair both lines are in mode PAIR without a pulse,
the configured levels are those of the state, the timer runs as the state says, and the pins are not active together. -/
def CueUnit.pairKept (x : CueUnit) (k : Nat) : Prop :=
  let p := x.pairOf k
  if p.enabled then
    x.modeOf (2 * k) = .pair ∧ x.modeOf (2 * k + 1) = .pair ∧
    (x.lines[2 * k]?).bind CueLine.pulse = none ∧ (x.lines[2 * k + 1]?).bind CueLine.pulse = none ∧
    x.levelOf (2 * k) = decide (p.state = .aOn) ∧ x.levelOf (2 * k + 1) = decide (p.state = .bOn) ∧
    (p.state = .aOn ∨ p.state = .bOn → p.timer = none) ∧ (p.state = .deadA ∨ p.state = .deadB → p.timer.isSome) ∧
    ¬(x.pinOf (2 * k) = true ∧ x.pinOf (2 * k + 1) = true)
  else x.modeOf (2 * k) ≠ .pair ∧ x.modeOf (2 * k + 1) ≠ .pair

/-- A cue record names a line or pair that is there and was written for a mode its action fits (R138). -/
def CueRecord.kept (c : CueRecord) : Prop :=
  match c.action with
  | .line i _ => i < 8 ∧ c.writtenMode.isSome ∧ c.writtenMode ≠ some .pair
  | .pulse i _ => i < 8 ∧ c.writtenMode = some .pulse
  | .pair k _ => k < 4 ∧ c.writtenMode = some .pair
  | .fade _ _ _ | .meter | .subtitle _ _ | .notice => True

/-- Eight lines and four pairs; while the hold is clear every pin level is its line's configured level; every pair is kept; the cue
lists, and the cues of a build, are kept (R137, R138, R145). -/
def State.linesKept (s : State) : Prop :=
  s.cue.lines.length = 8 ∧ s.cue.pairs.length = 4 ∧
  (s.cue.hold = false → ∀ l ∈ s.cue.lines, l.pin = l.level) ∧
  (∀ k, k < 4 → s.cue.pairKept k) ∧
  (∀ c ∈ s.cue.live, c.kept) ∧ (∀ c ∈ s.cue.waiting, c.kept) ∧
  (∀ b, s.ctl.build = some b → ∀ c ∈ b.cues, c.kept)

/-! ### Answers -/

/-- A frame stands to be taken, between events. -/
def State.asks (s : State) (f : Frame) : Prop := s.takes f = true ∧ s.composed = true

/-- A command answers a next state in which its request `f` has this status and data, in which only the named blocks and the link
may differ, and of which `post` holds. -/
def replies (c : Instr) (s : State) (f : Frame) (st : Status) (data : List Byte) (bs : List Block) (post : State → Prop) : Prop :=
  ∃ t, exec c s = .next t ∧ s.answered t f st data ∧ s.changesOnly t (.link :: bs) ∧ post t

/-- A command answers a next state in which only the named blocks may differ, and of which `post` holds. -/
def leaves (c : Instr) (s : State) (bs : List Block) (post : State → Prop) : Prop :=
  ∃ t, exec c s = .next t ∧ s.changesOnly t bs ∧ post t

/-- A request that is refused, and changes nothing but the link. -/
def refuses (c : Instr) (s : State) (f : Frame) (st : Status) (data : List Byte) : Prop :=
  replies c s f st data [] fun _ => True

/-! ### Restart (R180) -/

/-- The Cue Unit after a restart or night wake: lists and details empty, pairs disabled, every line LEVEL and inactive as configured,
its latched level kept; the pins inactive, or at the latched levels under the hold (R137). -/
def CueUnit.restarted (x y : CueUnit) (wake : Bool) : Prop :=
  y.live = [] ∧ y.waiting = [] ∧ y.hold = wake ∧ y.pairs = List.replicate 4 Pair.reset ∧ y.mask = 0 ∧ y.pattern = 0 ∧
  y.inputs = List.replicate 8 BoothInput.reset ∧ y.captures = List.replicate 8 none ∧ y.details = none ∧
  y.inputDetails = none ∧ y.skipCount = 0 ∧ y.skipLast = none ∧
  y.lines = x.lines.map fun l =>
    { mode := .level, level := false, pulse := none, pin := wake && l.latched, latched := l.latched }

/-- What a restart leaves, or a night wake with its cause (R44, R137, R160, R168, R179, R180). -/
def State.restarted (s t : State) (wake : Option WakeCause) : Prop :=
  t.tl = .reset ∧ t.ctl = .reset ∧ t.intake = .reset ∧ t.pic = .reset ∧ t.snd = .reset ∧ t.meter = .reset ∧ t.subs = .reset ∧
  t.caps = .reset ∧
  t.keys.places = s.keys.places.map (Option.map fun k => { k with pinned := false }) ∧ t.keys.details = .reset ∧
  t.acct.counter = s.acct.counter ∧ t.acct.count = none ∧
  (s.acct.opened = none → t.acct.log = s.acct.log) ∧
  (∀ r, s.acct.opened = some r → ∃ r', t.acct.log = s.acct.log.dropLast ++ [r'] ∧ r'.number = r.number ∧
    r'.outcome = some .interrupted ∧ r'.endClock = some s.pwr.clock ∧ r'.entries.length = r.entries.length ∧
    ∀ e, r'.entries.getLast? = some e → e.framesPlayed = some s.tl.frame) ∧
  t.pwr.state = .active ∧ t.pwr.transition = .none ∧ t.pwr.clock = s.pwr.clock ∧ t.pwr.clockSet = s.pwr.clockSet ∧
  t.pwr.wakeTime = s.pwr.wakeTime ∧ t.pwr.woke = wake.isSome ∧ t.pwr.wake = wake.map (fun c => (c, s.pwr.clock)) ∧
  t.notice.enables = BitVec.allOnes 13 ∧
  t.notice.order.map PendingSource.source =
    (if s.acct.opened.isSome && t.acct.full then [Source.log] else []) ++ (if wake.isSome then [Source.wake] else []) ∧
  t.link.receiver = .awaiting ∧ t.link.queue = [] ∧ t.link.reply = none ∧ t.link.overflow = [] ∧ t.link.rate = s.link.strap ∧
  s.cue.restarted t.cue wake.isSome ∧
  t.ports.overlay = s.ports.overlay ++ [.clearAll] ∧ t.ports.assist = s.ports.assist ++ [.clearAll] ∧
  t.ports.picture = s.ports.picture ∧ t.pending = s.pending

/-! ### Payloads that the host encodes (section 12.5) -/

/-- An entry that passes the checks of R24. -/
def Entry.loads (e : Entry) : Prop :=
  e.sound ∧ 1 ≤ e.mainChannels ∧ e.mainChannels ≤ 16 ∧ e.assistChannels ≤ 2 ∧ e.reels.length ≤ 12 ∧ e.keys.length ≤ 3 ∧
  e.keys.Nodup ∧ (∀ q, e.percentage = some q → 1 ≤ q ∧ q ≤ 100) ∧
  ∀ r ∈ e.reels, r.picture < 2 ^ 32 ∧ r.mainSound < 2 ^ 32 ∧ (r.assistSound.isSome ↔ e.assistChannels ≠ 0) ∧
    (∀ n, r.assistSound = some n → n < 2 ^ 32) ∧ (∀ n, r.mainSubtitle = some n → n < 2 ^ 32) ∧
    (∀ n, r.assistSubtitle = some n → n < 2 ^ 32)

/-- A track id of 4 bytes, when present. -/
def presentBytes : Option Nat → List Byte
  | none => []
  | some n => beBytes 4 n

/-- A reel of an entry part. -/
def Reel.bytes (r : Reel) : List Byte :=
  beBytes 4 r.duration ++ beBytes 4 r.picture ++ beBytes 4 r.mainSound ++ presentBytes r.assistSound ++
    [BitVec.ofNat 8 (r.mainSubtitle.isSome.toNat + 2 * r.assistSubtitle.isSome.toNat)] ++ presentBytes r.mainSubtitle ++
    presentBytes r.assistSubtitle

/-- An entry part of SHOW LOAD with any byte as its sample rate. -/
def entryPartAt (rate : Byte) (index id : Nat) (e : Entry) : List Byte :=
  beBytes 1 index ++ beBytes 4 id ++ idBytes e.composition ++ beBytes 1 e.editRate ++ [rate] ++ beBytes 1 e.mainChannels ++
    beBytes 1 e.assistChannels ++ beBytes 1 e.reels.length ++ beBytes 1 e.keys.length ++ beBytes 1 (e.percentage.getD 0) ++
    e.keys.flatMap idBytes ++ e.reels.flatMap Reel.bytes

/-- An entry part of SHOW LOAD. -/
def entryPart (index id : Nat) (e : Entry) : List Byte := entryPartAt e.rate.code index id e

/-- An entry that an entry part can carry, whatever R24 says of its fields: each fits its bytes, and an assist sound track id stands in
every reel when the assist channel count is 1 or 2 and in none otherwise (section 12.5). -/
def Entry.encodable (e : Entry) : Prop :=
  e.editRate < 256 ∧ e.mainChannels < 256 ∧ e.assistChannels < 256 ∧ e.reels.length < 256 ∧ e.keys.length < 256 ∧
  (∀ q, e.percentage = some q → 1 ≤ q ∧ q < 256) ∧
  ∀ r ∈ e.reels, r.duration < 2 ^ 32 ∧ r.picture < 2 ^ 32 ∧ r.mainSound < 2 ^ 32 ∧
    (r.assistSound.isSome ↔ e.assistChannels = 1 ∨ e.assistChannels = 2) ∧ (∀ n, r.assistSound = some n → n < 2 ^ 32) ∧
    (∀ n, r.mainSubtitle = some n → n < 2 ^ 32) ∧ (∀ n, r.assistSubtitle = some n → n < 2 ^ 32)

/-- Part 0 of SHOW LOAD. -/
def headerPart (id entryCount pauseLimit : Nat) (cueCount : Option Nat) : List Byte :=
  [0] ++ beBytes 4 id ++ beBytes 1 entryCount ++ beBytes 2 pauseLimit ++ beBytes 1 (cueCount.getD 255)

/-- An action whose parameters lie in the ranges of R140. -/
def CueAction.inRange : CueAction → Prop
  | .line i _ => i < 8
  | .pulse i w => i < 8 ∧ 10 ≤ w ∧ w ≤ 10000
  | .pair k _ => k < 4
  | .fade set target ms => set ≠ 0 ∧ target < 65536 ∧ ms < 65536
  | .meter | .subtitle _ _ | .notice => True

/-- A cue record whose fields lie in the ranges of R138. -/
def CueRecord.inRange (c : CueRecord) : Prop := c.number < 64 ∧ c.entry < 16 ∧ c.offset ≤ 3000000 ∧ c.action.inRange

/-- A cue record whose fields fit their bytes, whatever R138 says of them (section 12.5). -/
def CueRecord.encodable (c : CueRecord) : Prop :=
  c.number < 256 ∧ c.entry < 256 ∧ c.offset < 2 ^ 32 ∧
  match c.action with
  | .line i _ => i < 256
  | .pulse i w => i < 256 ∧ w < 65536
  | .pair k _ => k < 256
  | .fade _ target ms => target < 65536 ∧ ms < 65536
  | .meter | .subtitle _ _ | .notice => True

/-- The 16 bytes of a cue record in a CUE EDIT WRITE or a cue part (section 12.5). -/
def CueRecord.edit (c : CueRecord) : List Byte := c.bytes.take 16

/-- The payload of a KEY PUT (section 12.5). -/
def keyPutPayload (k : KeyRecord) : List Byte :=
  idBytes k.id ++ idBytes k.composition ++ [k.scopeByte] ++ idBytes k.contentKey ++ idBytes k.checkKey ++
    beBytes 4 k.windowStart ++ beBytes 4 k.windowEnd ++ optBytes 2 k.allowance

/-- A record that passes checks 2 to 4 of R48. -/
def KeyRecord.admissible (k : KeyRecord) : Prop :=
  (k.scopePicture || k.scopeSound || k.scopeSubtitle) = true ∧ k.windowStart ≤ k.windowEnd ∧ k.windowEnd < 2 ^ 32 ∧
  ∀ n, k.allowance = some n → 1 ≤ n ∧ n ≤ 65535

/-- The state R45 gives a record of a set clock. -/
def stateAt (clock : Nat) (k : KeyRecord) : KeyState :=
  if k.state = .expired ∨ k.state = .spent ∨ k.state = .revoked then k.state
  else if clock < k.windowStart then .pending else if clock ≤ k.windowEnd then .valid else .expired

/-! ### What several events of the show have in common (R2, R27, R32, R37) -/

/-- The first element of a list with a property, at its index. -/
def firstAt {α : Type} (l : List α) (bad : α → Prop) (i : Nat) (a : α) : Prop :=
  l[i]? = some a ∧ bad a ∧ ∀ j, j < i → ∀ x, l[j]? = some x → ¬bad x

/-- The 8 summary bytes of a capture record's source: 255 and FFFFFFh for an absent entry and frame (the table of R169). -/
def faultTold : Option FaultRecord → List Byte
  | some r =>
    [r.kind.code, r.cause.code] ++ (match r.place with | some x => beBytes 1 x.1 ++ beBytes 3 x.2 | none => [255, 255, 255, 255]) ++
      [flagByte r.repeated, 0]
  | none => List.replicate 8 0

/-- The 8 summary bytes of a source, from its owner's details: the table of R169. Zeros stand where there are no details. -/
def State.told (s : State) : Source → List Byte
  | .show =>
    match s.ctl.event with
    | some e => [e.code.code, e.state.code, outcomeCode e.outcome] ++ beBytes 4 e.programme ++ [0]
    | none => List.replicate 8 0
  | .count =>
    match s.acct.count with
    | some d =>
      beBytes 4 d.number ++ beBytes 1 d.entry ++ beBytes 1 d.entriesCharged ++ beBytes 1 d.keysCharged ++ beBytes 1 d.count
    | none => List.replicate 8 0
  | .keys =>
    beBytes 4 s.keys.details.changed.toNat ++ beBytes 1 s.keys.details.count ++
      (match s.keys.details.last with | some (i, st, c) => beBytes 1 i ++ [st.code, c.code] | none => [0, 0, 0])
  | .log =>
    match s.acct.logDetails with
    | some d => beBytes 1 d.records ++ beBytes 1 d.uncollected ++ beBytes 4 d.newest ++ [0, 0]
    | none => List.replicate 8 0
  | .intakeFault => faultTold s.caps.intake
  | .soundFault => faultTold s.caps.sound
  | .subtitleFault => faultTold s.caps.subtitle
  | .linkFault => faultTold s.caps.link
  | .meter =>
    match s.meter.details with
    | some d =>
      [BitVec.ofNat 8 (d.mode.code * 16 + d.point.code)] ++ beBytes 2 d.pass ++ beBytes 3 d.peak ++ beBytes 1 d.channel ++
        [d.trigger.code]
    | none => List.replicate 8 0
  | .silence =>
    beBytes 3 s.meter.silence.raised.toNat ++
      (match s.meter.silence.last with | some (o, c, e) => beBytes 1 o ++ [c.code] ++ beBytes 1 e | none => [0, 0, 0]) ++
      beBytes 1 s.meter.silence.count ++ [0]
  | .input =>
    match s.cue.inputDetails with
    | some d => beBytes 1 d.input ++ [d.edge.code, d.action.code, d.result.code] ++ beBytes 1 d.count ++ [0, 0, 0]
    | none => List.replicate 8 0
  | .cue =>
    match s.cue.details with
    | some d => beBytes 1 d.number ++ beBytes 1 d.entry ++ beBytes 3 d.frame ++ beBytes 1 d.count ++ [0, 0]
    | none => List.replicate 8 0
  | .wake =>
    match s.pwr.wake with
    | some w => [w.1.code] ++ beBytes 4 w.2 ++ [0, 0, 0]
    | none => List.replicate 8 0

/-- What the pending order holds of a source. -/
def State.entriesOf (s : State) (src : Source) : List PendingSource := s.notice.order.filter fun e => e.source = src

/-- A source whose report changes nothing: it is pending or disabled, or the part is in NIGHT (the table of R169). -/
def State.deaf (s : State) (src : Source) : Prop :=
  s.notice.isEnabled src = false ∨ s.pwr.state = .night ∨ src ∈ s.notice.order.map PendingSource.source

/-- An event told the Notice Unit nothing of a source: its enable and its place in the pending order stand. -/
def State.silent (s t : State) (src : Source) : Prop :=
  t.notice.enables = s.notice.enables ∧ t.entriesOf src = s.entriesOf src

/-- An event raised a source: the enables stand; an enabled source that was not pending is AWAITING, with the summary of its owner's
details as they stand after the event; a pending or disabled one is as it was (R168, R169). -/
def State.signals (s t : State) (src : Source) : Prop :=
  t.notice.enables = s.notice.enables ∧
  (¬s.deaf src → t.entriesOf src = [{ source := src, mark := .awaiting, summary := some (t.told src) }]) ∧
  (s.deaf src → t.entriesOf src = s.entriesOf src)

/-- An event offered a fault to a capture record: a FREE one takes it and raises its source, a HELD one sets its repeat flag and tells
nothing (R166). With `again` the event made more than one offer to it, of which this is the first. -/
def State.offers (s t : State) (u : CaptureUnit) (kind : FaultKind) (cause : FaultCause) (place : Option (Nat × Nat))
    (detail : List Byte) (again : Bool := false) : Prop :=
  (s.caps.get u = none →
    t.caps.get u = some { kind := kind, cause := cause, place := place, clock := s.pwr.clock, detail := detail, repeated := again } ∧
    s.signals t u.source) ∧
  ∀ r, s.caps.get u = some r → t.caps.get u = some { r with repeated := true } ∧ s.silent t u.source

/-- An event offered a capture record nothing. -/
def State.spares (s t : State) (u : CaptureUnit) : Prop := t.caps.get u = s.caps.get u ∧ s.silent t u.source

/-- Whether an event changed the state of the key record at an index. -/
def State.keyMoved (s t : State) (i : Nat) : Bool :=
  match s.keys.places[i]?, t.keys.places[i]? with
  | some (some a), some (some b) => a.state ≠ b.state
  | _, _ => false

/-- The KEYS details and the KEYS notice after an evaluation event or a charge: the indexes whose state changed are added to the details
of a pending source and replace those of any other, and KEYS is raised once; without a change nothing is done (R47). -/
def State.reportsKeys (s t : State) (cause : KeysCause) : Prop :=
  let pending : Bool := s.notice.order.any fun e => e.source = .keys
  let moved := (List.range s.keys.places.length).filter (s.keyMoved t)
  (moved = [] → t.keys.details = s.keys.details ∧ s.silent t .keys) ∧
  ∀ i k, moved.getLast? = some i → t.keys.places[i]? = some (some k) →
    (∀ j, j < 32 → t.keys.details.changed.getLsbD j =
      (decide (j ∈ moved) || (pending && s.keys.details.changed.getLsbD j))) ∧
    t.keys.details.count = min 255 ((if pending then s.keys.details.count else 0) + moved.length) ∧
    t.keys.details.last = some (i, k.state, cause) ∧ s.signals t .keys

/-- A SHOW event as the Show Controller holds it (R27). -/
def ShowControl.reporting (c : ShowControl) (code : ShowCode) (st : ShowState) (o : Option ShowOutcome) : Option ShowEvent :=
  some { code := code, state := st, outcome := o, programme := (c.programme.map Programme.id).getD 0 }

/-! ### Priming (R31) -/

/-- The track id a reel holds for a subtitle track (R22). -/
def Reel.idFor (r : Reel) : Track → Option Nat
  | .main => r.mainSubtitle
  | .assist => r.assistSubtitle

/-- The priming condition of R31: each present queue holds 16 READY or LOST entries, or one for every unit of its track; and each enabled
subtitle track whose first reel holds a track id has the table of that reel. -/
def State.primingDone (s : State) : Prop :=
  ∃ p e, s.ctl.programme = some p ∧ p.entries.head? = some e ∧
    let enough (q : QueueId) (served : Entry → Bool) : Prop :=
      let settled := (s.intake.queue q).countP fun x => x.status ≠ .reserved
      16 ≤ settled ∨ ((p.entries.filter served).map fun d => (d.reels.map Reel.duration).sum).sum ≤ settled
    enough .pq (fun _ => true) ∧ enough .sq0 (fun _ => true) ∧ (e.assistChannels ≠ 0 → enough .sq1 fun d => d.assistChannels ≠ 0) ∧
    ∀ tr rl id, (s.subs.track tr).enabled = true → e.reels.head? = some rl → rl.idFor tr = some id →
      ∃ c, (s.subs.track tr).current = some c ∧ c.entry = 0 ∧ c.reel = 0

/-- A report that the Show Controller weighs in ARMING: the show becomes ARMED when the priming condition holds, and is otherwise as it
was (R31, R75). -/
def State.arms (s t : State) : Prop :=
  (s.ctl.state = .arming → t.primingDone →
    t.ctl = { s.ctl with state := .armed, armTimer := none, event := s.ctl.reporting .armed .armed none } ∧ s.signals t .show) ∧
  (s.ctl.state ≠ .arming ∨ ¬t.primingDone → t.ctl = s.ctl ∧ s.silent t .show)

/-! ### Reels in play order, and the tables of the Subtitle Engine (R71, R124 to R129, R134, R135) -/

/-- The reel in play: reel 0 of entry 0 in ARMING and ARMED, the Timeline's otherwise. -/
def State.inPlay (s : State) : Nat × Nat :=
  if s.ctl.state = .arming ∨ s.ctl.state = .armed then (0, 0) else (s.tl.entry, s.tl.reel)

/-- The reel that follows the reel in play, absent after the programme's last. -/
def State.followsInPlay (s : State) : Option (Nat × Nat) :=
  match s.entryAt s.inPlay.1 with
  | none => none
  | some e =>
    if s.inPlay.2 + 1 < e.reels.length then some (s.inPlay.1, s.inPlay.2 + 1)
    else if (s.entryAt (s.inPlay.1 + 1)).isSome then some (s.inPlay.1 + 1, 0) else none

/-- A reel comes before another in play order. -/
def earlier (a b : Nat × Nat) : Prop := a.1 < b.1 ∨ (a.1 = b.1 ∧ a.2 < b.2)

/-- A track's tables brought up to the reel in play (R129). -/
def SubtitleTrack.broughtTo (x : SubtitleTrack) (reel : Nat × Nat) : SubtitleTrack :=
  if x.markerEntry = reel.1 ∧ x.markerReel = reel.2 then x
  else { x with current := x.next, next := none, markerEntry := reel.1, markerReel := reel.2 }

/-- One track of the Subtitle Engine becomes `y`, and the other is as it was. -/
def State.trackBecomes (s t : State) (tr : Track) (y : SubtitleTrack) : Prop :=
  t.subs = match tr with
    | .main => { s.subs with main := y }
    | .assist => { s.subs with assist := y }

/-- `n` subtitle defects were added to the record of an entry in the open showing record, saturating (R134, R157). -/
def State.addsDefects (s t : State) (entry n : Nat) : Prop :=
  ∀ before rec es x after, s.acct.log = before ++ [rec] → rec.outcome = none → rec.entries = es ++ x :: after → es.length = entry →
    t.acct = { s.acct with log := before ++
      [{ rec with entries := es ++ { x with subtitleDefects := min 65535 (x.subtitleDefects + n) } :: after }] }

/-- A table was placed by its reel: in CURRENT, in NEXT, or not at all as late; its pending defects are handed in RUNNING and PAUSED, and
the Show Controller weighs the report of a table of the reel in play (R128, R129, R134, R31). -/
def State.places (s t : State) (tr : Track) (c : ReelTable) : Prop :=
  let x := (s.subs.track tr).broughtTo s.inPlay
  let reel := (c.entry, c.reel)
  let open' : Prop := s.ctl.state = .running ∨ s.ctl.state = .paused
  (reel = s.inPlay →
    (open' → s.trackBecomes t tr { x with current := some { c with defects := 0 } } ∧ s.addsDefects t c.entry c.defects) ∧
    (¬open' → s.trackBecomes t tr { x with current := some c } ∧ t.acct = s.acct) ∧ s.arms t) ∧
  (earlier reel s.inPlay → s.trackBecomes t tr x ∧ s.addsDefects t c.entry 1 ∧ t.ctl = s.ctl) ∧
  (earlier s.inPlay reel → s.trackBecomes t tr { x with next := some c } ∧ t.acct = s.acct ∧ t.ctl = s.ctl)

/-- The bytes of an event record of a subtitle unit (section 12.5). -/
def SubtitleSource.bytes (e : SubtitleSource) : List Byte :=
  beBytes 4 e.number ++ beBytes 4 e.inSteps ++ beBytes 4 e.outSteps ++ beBytes 2 e.fadeInSteps ++ beBytes 2 e.fadeOutSteps ++
    beBytes 1 e.region ++ beBytes 1 e.style ++ beBytes 1 e.text.length ++ e.text

/-- The payload of a subtitle unit with a step rate and event records (R124, section 12.5). -/
def subtitlePayload (rate : Nat) (es : List SubtitleSource) : List Byte :=
  beBytes 2 rate ++ beBytes 2 es.length ++ es.flatMap SubtitleSource.bytes

/-- An event record whose fields lie in the ranges of R124. -/
def SubtitleSource.inRange (e : SubtitleSource) : Prop :=
  e.number < 2 ^ 32 ∧ e.inSteps < 2 ^ 32 ∧ e.outSteps < 2 ^ 32 ∧ e.fadeInSteps < 65536 ∧ e.fadeOutSteps < 65536 ∧ e.region < 256 ∧
  e.style < 256 ∧ 1 ≤ e.text.length ∧ e.text.length ≤ 240

/-- The frames of a count of steps, nearest, halves up (R125). -/
def framesOf (editRate stepRate t : Nat) : Nat := (t * editRate + stepRate / 2) / stepRate

/-- Why an event record of a reel of `d` frames does not survive the six steps of R126, if it does not. -/
def SubtitleSource.dropped (e : SubtitleSource) (tr : Track) (editRate stepRate d : Nat) : Option (FaultKind × FaultCause) :=
  if (match tr with | .main => 3 | .assist => 0) < e.region then some (.region, .region)
  else if d ≤ framesOf editRate stepRate e.inSteps then some (.beyondReel, .beyondReel) else none

/-- A surviving event record with the frames of R126, made entry-relative by the reel's start (R127). -/
def SubtitleSource.converted (e : SubtitleSource) (editRate stepRate d start : Nat) : SubtitleEvent :=
  let n := framesOf editRate stepRate e.inSteps
  let out := max (n + 1) (min (framesOf editRate stepRate e.outSteps) d)
  let fadeIn := min (framesOf editRate stepRate e.fadeInSteps) (out - n)
  { number := e.number, inFrame := n + start, outFrame := out + start, fadeIn := fadeIn
    fadeOut := min (framesOf editRate stepRate e.fadeOutSteps) (out - n - fadeIn), region := e.region, style := e.style, text := e.text
    sent := false }

/-- A table is what R127 makes of a unit's event records: at most 512 survivors, in in-frame order, those of one in-frame in record
order, and one pending defect for each record dropped. -/
def ReelTable.loadedFrom (c : ReelTable) (tr : Track) (e : Entry) (rl : Reel) (stepRate : Nat) (es : List SubtitleSource) : Prop :=
  let survivors := es.filter fun x => (x.dropped tr e.editRate stepRate rl.duration).isNone
  let start := ((e.reels.take c.reel).map Reel.duration).sum
  let kept := (survivors.take 512).map fun x => x.converted e.editRate stepRate rl.duration start
  c.lost = false ∧ c.defects = es.length - kept.length ∧ (c.events.Pairwise fun a b => a.inFrame ≤ b.inFrame) ∧
  ∀ n, (c.events.filter fun x => x.inFrame = n) = kept.filter fun x => x.inFrame = n

/-- What the loading of a unit's event records offered the Subtitle capture: its drops, in record order, and then, for a reel before the
one in play, the late discard of the table (R128, R135). -/
def State.offersDrops (s t : State) (tr : Track) (entry reel editRate stepRate d : Nat) (es : List SubtitleSource) (late : Bool) : Prop :=
  let detail := [tr.code] ++ beBytes 1 entry ++ beBytes 1 reel
  let survives (x : SubtitleSource) : Bool := (x.dropped tr editRate stepRate d).isNone
  let spilled (j : Nat) : Bool := decide (512 ≤ (es.take j).countP survives)
  let drops := (indexed es).filter fun y => !survives y.2 || spilled y.1
  (drops = [] → late = false → s.spares t .subtitle) ∧ (drops = [] → late = true → s.offers t .subtitle .lost .late s.place detail) ∧
  ∀ y rest, drops = y :: rest →
    let why := (y.2.dropped tr editRate stepRate d).getD (.overflow, .overflow)
    s.offers t .subtitle why.1 why.2 s.place (detail ++ beBytes 4 y.2.number) (again := decide (rest ≠ []) || late)

/-- The table of a lost unit or a malformed payload (R127). -/
def lostTable (entry reel : Nat) : ReelTable := { entry := entry, reel := reel, lost := true, events := [], defects := 1 }

/-- A subtitle-lost indication, or a malformed payload, was placed: its LOST table by its reel, and the offer of R135, with cause LATE for
a reel before the one in play (R127, R128, R135). -/
def State.placesLost (s t : State) (tr : Track) (entry reel : Nat) (cause : FaultCause) : Prop :=
  let detail := [tr.code] ++ beBytes 1 entry ++ beBytes 1 reel
  s.places t tr (lostTable entry reel) ∧
  (¬earlier (entry, reel) s.inPlay → s.offers t .subtitle .lost cause s.place detail) ∧
  (earlier (entry, reel) s.inPlay → s.offers t .subtitle .lost .late s.place detail)

/-- An opened payload was delivered to the Subtitle Engine: a well-formed one is loaded and placed with its drops offered, a malformed one
is placed as lost with cause PAYLOAD (R124 to R128, R135). -/
def State.loads (s t : State) (tr : Track) (entry reel : Nat) (payload : List Byte) : Prop :=
  (∀ e rl rate es, s.entryAt entry = some e → e.reels[reel]? = some rl → payload = subtitlePayload rate es → 1 ≤ rate → rate ≤ 1000 →
    es.length < 65536 → (∀ x ∈ es, x.inRange) →
    ∃ c : ReelTable, c.entry = entry ∧ c.reel = reel ∧ c.loadedFrom tr e rl rate es ∧ s.places t tr c ∧
      ∀ late : Bool, (late = true ↔ earlier (entry, reel) s.inPlay) →
        s.offersDrops t tr entry reel e.editRate rate rl.duration es late) ∧
  (payload.length < 4 ∨ field payload 0 2 = 0 ∨ 1000 < field payload 0 2 ∨
    (∃ rate es extra, payload = subtitlePayload rate es ++ extra ∧ es.length < 65536 ∧ (∀ x ∈ es, x.inRange) ∧ extra ≠ []) →
    s.placesLost t tr entry reel .payload)

/-! ### What becomes of the unit a storage request reads (R62 to R66, R71 to R75) -/

/-- The outcomes of a storage request: the unit opened, the unit lost with a fault detail, or another attempt with the storage failures
and the re-read flag given. -/
inductive Fate where
  | ready (data : List Byte)
  | lost (cause : LossCause) (detail : List Byte)
  | again (failures : Nat) (reread : Bool)

/-- The cause under which a loss is offered (R74). -/
def LossCause.offered : LossCause → FaultCause
  | .key => .key | .integrity => .integrity | .storage => .storage | .format => .format | .payload => .payload

/-- A request for a queue entry, the `j`-th, ended and freed its slot (R66, R72 to R75). -/
def State.queueSettles (s t : State) (i : Nat) (q : QueueId) (j : Nat) (e : QueueEntry) (fate : Fate) : Prop :=
  let becomes (f : QueueEntry) : Prop :=
    t.intake = { s.intake.setQueue q ((s.intake.queue q).set j f) with slots := s.intake.slots.set i none }
  (match fate with
  | .ready data => becomes { e with status := .ready data, slot := none } ∧ s.arms t ∧ s.spares t .intake
  | .lost cause detail =>
    becomes { e with status := .lost cause, slot := none } ∧ s.arms t ∧ s.offers t .intake .lost cause.offered s.place detail
  | .again n reread =>
    becomes { e with status := .reserved, slot := none, failures := n, reread := reread } ∧ t.ctl = s.ctl ∧ t.notice = s.notice ∧
    s.spares t .intake) ∧
  t.subs = s.subs ∧ t.acct = s.acct ∧ ∀ u, u ≠ .intake → s.spares t u

/-- A request for a subtitle request, the `j`-th of the list, ended and freed its slot. Opened or lost, it is delivered when its reel is
the reel in play, the one that follows it, or one before; it is HELD otherwise (R71 to R74). -/
def State.subtitleSettles (s t : State) (i j : Nat) (r : SubtitleRequest) (fate : Fate) : Prop :=
  let reel := (r.entry, r.reel)
  let listed (l : List SubtitleRequest) : Prop := t.intake = { s.intake with requests := l, slots := s.intake.slots.set i none }
  let held (st : SubtitleStatus) : Prop :=
    listed (s.intake.requests.set j { r with status := st }) ∧ t.subs = s.subs ∧ t.acct = s.acct ∧ t.ctl = s.ctl ∧ s.spares t .subtitle
  let due : Prop := reel = s.inPlay ∨ s.followsInPlay = some reel ∨ earlier reel s.inPlay
  let waits : Prop := earlier s.inPlay reel ∧ ∀ next, s.followsInPlay = some next → earlier next reel
  (match fate with
  | .ready data =>
    (due → listed (s.intake.requests.eraseIdx j) ∧ s.loads t r.track r.entry r.reel data) ∧ (waits → held (.opened data)) ∧
    s.spares t .intake
  | .lost cause detail =>
    (due → listed (s.intake.requests.eraseIdx j) ∧ s.placesLost t r.track r.entry r.reel cause.offered) ∧
    (waits → held (.lost cause)) ∧ s.offers t .intake .lost cause.offered s.place detail
  | .again n reread =>
    listed (s.intake.requests.set j { r with status := .awaiting, failures := n, reread := reread }) ∧ t.subs = s.subs ∧
    t.acct = s.acct ∧ t.ctl = s.ctl ∧ t.notice = s.notice ∧ s.spares t .subtitle ∧ s.spares t .intake) ∧
  ∀ u, u ≠ .intake → u ≠ .subtitle → s.spares t u

/-- The request in slot `i` ended with a fate that may depend on its owner's storage failures and re-read flag. A subtitle owner is taken
where no other request of the list is HELD. -/
def State.settles (s t : State) (i : Nat) (r : StorageRequest) (fate : Nat → Bool → Fate) : Prop :=
  match r.owner with
  | .queue q pos =>
    ∀ j e, (s.intake.queue q)[j]? = some e → e.pos = pos → (∀ k f, (s.intake.queue q)[k]? = some f → f.pos = pos → k = j) →
      s.queueSettles t i q j e (fate e.failures e.reread)
  | .subtitle tr entry reel =>
    ∀ j x, s.intake.requests[j]? = some x → x.track = tr → x.entry = entry → x.reel = reel →
      (∀ k y, s.intake.requests[k]? = some y → k ≠ j →
        ¬(y.track = tr ∧ y.entry = entry ∧ y.reel = reel) ∧ (y.status = .awaiting ∨ ∃ n, y.status = .inFlight n)) →
      s.subtitleSettles t i j x (fate x.failures x.reread)

/-- Reel index and unit number of the unit an owner waits for, in a fault detail (R74). -/
def Owner.told : Owner → List Byte
  | .queue _ pos => beBytes 1 pos.reel ++ beBytes 4 pos.unit
  | .subtitle _ _ reel => beBytes 1 reel ++ [0, 0, 0, 0]

/-- The entry of an owner's unit. -/
def Owner.entryOf : Owner → Nat
  | .queue _ pos => pos.entry
  | .subtitle _ entry _ => entry

/-- An ERROR reply or a timeout: another attempt up to three times, then LOST with cause STORAGE (R72). -/
def Owner.fails (o : Owner) (failures : Nat) (reread : Bool) : Fate :=
  if failures < 3 then .again (failures + 1) reread else .lost .storage o.told

/-- An integrity mismatch: one re-read, then LOST with cause INTEGRITY (R73). -/
def Owner.mismatches (o : Owner) (failures : Nat) (reread : Bool) : Fate :=
  if reread then .lost .integrity o.told else .again failures true

/-- The track kind a request expects, with its code (R62, R185). -/
def Owner.expects : Owner → TrackKind
  | .queue .pq _ => .picture
  | .queue .sq0 _ | .queue .sq1 _ => .sound
  | .subtitle _ _ _ => .subtitle

/-- The payload lengths of the table of R62. -/
def Owner.lengthFits (o : Owner) (e : Entry) (n : Nat) : Prop :=
  match o with
  | .queue .pq _ => 1 ≤ n ∧ n ≤ 2097152
  | .queue .sq0 _ => n = e.rate.hz / e.editRate * e.mainChannels * 3
  | .queue .sq1 _ => n = e.rate.hz / e.editRate * e.assistChannels * 3
  | .subtitle _ _ _ => 1 ≤ n ∧ n ≤ 262144

/-- The bytes of an encrypted and tagged unit as the store sends it (section 12.5). -/
def sealedUnit (kind number : Nat) (keyId : Id) (counter : BitVec 64) (tag : Id) (payload : List Byte) : List Byte :=
  [0xE4, 0x16, 0x55, 0xAA, BitVec.ofNat 8 kind, 3] ++ beBytes 4 number ++ beBytes 4 payload.length ++ idBytes keyId ++
    beBytes 8 counter.toNat ++ idBytes tag ++ payload

/-- The number of the first condition of a lookup that fails, absent when it succeeds (R55). -/
def State.refusal (s : State) (keyId composition : Id) (kind : TrackKind) : Option Nat :=
  match s.keys.find keyId with
  | none => some 1
  | some k =>
    if k.composition ≠ composition then some 2
    else if (match kind with | .picture => k.scopePicture | .sound => k.scopeSound | .subtitle => k.scopeSubtitle) = false then some 3
    else if k.pinned = false then some 4
    else if k.state ≠ .valid ∧ s.ctl.state ≠ .running ∧ s.ctl.state ≠ .paused ∧ s.ctl.state ≠ .stopping then some 5
    else none

/-! ### The sweep (R68 to R70) -/

/-- Whether a queue serves an entry: SQ1 serves those with assist sound (R68). -/
def QueueId.reads (q : QueueId) (e : Entry) : Prop := q = .sq1 → e.assistChannels ≠ 0

/-- The position a queue serves after the last unit of a position's reel or before it: the next unit, unit 0 of the next reel, unit 0 of
the next entry it serves, or ENDED (R68). -/
def State.comesAfter (s : State) (q : QueueId) (pos : Pos) (c : Option Pos) : Prop :=
  ∀ e rl, s.entryAt pos.entry = some e → e.reels[pos.reel]? = some rl →
    (pos.unit + 1 < rl.duration → c = some { pos with unit := pos.unit + 1 }) ∧
    (pos.unit + 1 = rl.duration → pos.reel + 1 < e.reels.length → c = some { pos with reel := pos.reel + 1, unit := 0 }) ∧
    (pos.unit + 1 = rl.duration → pos.reel + 1 = e.reels.length →
      (∀ i d, pos.entry < i → s.entryAt i = some d → q.reads d →
        (∀ k x, pos.entry < k → k < i → s.entryAt k = some x → ¬q.reads x) → c = some { entry := i, reel := 0, unit := 0 }) ∧
      ((∀ i d, pos.entry < i → s.entryAt i = some d → ¬q.reads d) → c = none))

/-- The subtitle requests that the PQ cursor adds as it enters a reel: one for each enabled track the reel holds a track id for (R70).
MAIN before ASSIST is the model's choice (log entry 30). -/
def State.addsRequests (s : State) (entry reel : Nat) (rl : Reel) : List SubtitleRequest :=
  let one (tr : Track) : List SubtitleRequest :=
    match (s.subs.track tr).enabled, rl.idFor tr with
    | true, some id =>
      [{ track := tr, entry := entry, reel := reel, trackId := id, status := .awaiting, failures := 0, reread := false }]
    | _, _ => []
  one .main ++ one .assist

/-- Whether a queue entry awaits re-issue (R67). -/
def QueueEntry.idle (e : QueueEntry) : Prop := e.status = .reserved ∧ e.slot = none

/-- Whether a station has work: an entry awaiting re-issue, or a new request at the cursor with room in the queue and, at unit 0 of a
picture reel, in the subtitle list; for the subtitle list, a request awaiting issue (R69, R70). -/
def State.hasWork (s : State) (st : Station) : Prop :=
  let queue (q : QueueId) (room : Nat) : Prop :=
    (∃ e ∈ s.intake.queue q, e.idle) ∨
    ∃ pos, s.intake.cursor q = some pos ∧ (s.intake.queue q).length < room ∧
      (s.intake.requests.length +
        (match q, pos.unit, (s.entryAt pos.entry).bind fun e => e.reels[pos.reel]? with
         | .pq, 0, some rl => (s.addsRequests pos.entry pos.reel rl).length
         | _, _, _ => 0) ≤ 8)
  match st with
  | .pq => queue .pq 32
  | .sq0 => queue .sq0 64
  | .sq1 => queue .sq1 64
  | .subtitles => ∃ r ∈ s.intake.requests, r.status = .awaiting

/-! ### What a slot start leaves (R76, R77, R82, R88, R98, R100, R104, R157) -/

/-- What a queue hands over at the take of a position (R76). -/
def handedBy (l : List QueueEntry) (pos : Pos) : Take :=
  match l with
  | [] => .late
  | x :: _ =>
    if x.pos = pos then match x.status with | .ready data => .ready data | .lost c => .lost c | .reserved => .late
    else .late

/-- The queue after the take of a position (R76). -/
def leftBy (l : List QueueEntry) (pos : Pos) : List QueueEntry :=
  match l with
  | [] => []
  | x :: rest => if x.pos = pos then rest else x :: rest

/-- Whether a queue's head is LOST and holds a position (R77). -/
def warnsOf (l : List QueueEntry) (next : Pos) : Bool :=
  match l with
  | [] => false
  | x :: _ => (match x.status with | .lost _ => true | .ready _ | .reserved => false) && decide (x.pos = next)

/-- The unit a take handed over. -/
def Take.unit : Take → Option (List Byte)
  | .ready data => some data
  | .lost _ | .late => none

/-- A queue after the take of a position: its head is gone if it held the position, the slot of a late head is free, and the cursor is past
the position (R68, R76). -/
def State.takes76 (s t : State) (q : QueueId) (pos : Pos) : Prop :=
  t.intake.queue q = leftBy (s.intake.queue q) pos ∧
  (∀ x rest k, s.intake.queue q = x :: rest → x.pos = pos → x.status = .reserved → x.slot = some k → k < s.intake.slots.length →
    t.intake.slots[k]? = some none) ∧
  (s.intake.cursor q = none → t.intake.cursor q = none) ∧
  ∀ c, s.intake.cursor q = some c →
    (pos.entry < c.entry ∨ (pos.entry = c.entry ∧ (pos.reel < c.reel ∨ (pos.reel = c.reel ∧ pos.unit < c.unit))) →
      t.intake.cursor q = some c) ∧
    (¬(pos.entry < c.entry ∨ (pos.entry = c.entry ∧ (pos.reel < c.reel ∨ (pos.reel = c.reel ∧ pos.unit < c.unit)))) →
      s.comesAfter q pos (t.intake.cursor q))

/-- A track of the Sound Engine after a slot start at which it took `x` from a queue whose entries left are `l` (R88). -/
def SoundTrack.begins (k : SoundTrack) (x : Take) (warn : Bool) : SoundTrack :=
  { unit := x.unit, gap := x.unit.isNone, fadeOutDue := warn, previousGap := k.gap }

/-- What the slot start of frame `f` of entry `i` leaves in Intake, the Picture Output, the Sound Engine and the showing record, for a
frame of reel `r`; `sent` is what went out on the picture link before its record, `last` the last picture before it and `old` the
picture and sound defects of the entry so far (R76, R77, R82, R87, R88, R98, R157). -/
def State.slotBegun (s t : State) (i f : Nat) (e : Entry) (sent : List PictureRecord) (last : Option Pos) (old : Nat × Nat) : Prop :=
  ∀ r rl, e.reels[r]? = some rl → ((e.reels.take r).map Reel.duration).sum ≤ f →
    f < ((e.reels.take r).map Reel.duration).sum + rl.duration →
    let u := f - ((e.reels.take r).map Reel.duration).sum
    let pos : Pos := { entry := i, reel := r, unit := u }
    let next : Pos := if u + 1 < rl.duration then { pos with unit := u + 1 } else { pos with reel := r + 1, unit := 0 }
    let more : Bool := decide (f + 1 < (e.reels.map Reel.duration).sum)
    let picture := handedBy s.intake.pq pos
    let main := handedBy s.intake.sq0 pos
    let assist : Take := if e.assistChannels = 0 then .ready [] else handedBy s.intake.sq1 pos
    let missing (x : Take) : Nat := if x.unit.isNone then 1 else 0
    s.takes76 t .pq pos ∧ s.takes76 t .sq0 pos ∧ (e.assistChannels ≠ 0 → s.takes76 t .sq1 pos) ∧
    (e.assistChannels = 0 → t.intake.sq1 = s.intake.sq1 ∧ t.intake.sq1Cursor = s.intake.sq1Cursor) ∧
    (∀ data, picture = .ready data → t.ports.picture = s.ports.picture ++ sent ++ [.picture pos data] ∧ t.pic.last = some pos) ∧
    (picture.unit = none → t.ports.picture = s.ports.picture ++ sent ++ [.again i f] ∧ t.pic.last = last) ∧
    t.snd.main = s.snd.main.begins main (more && warnsOf t.intake.sq0 next) ∧
    (e.assistChannels ≠ 0 → t.snd.assist = s.snd.assist.begins assist (more && warnsOf t.intake.sq1 next)) ∧
    (e.assistChannels = 0 → t.snd.assist = { unit := none, gap := false, fadeOutDue := false, previousGap := false }) ∧
    t.snd.map = s.snd.pendingMap.getD s.snd.map ∧ t.snd.pendingMap = none ∧
    (∀ before rec x, t.acct.log = before ++ [rec] → rec.outcome = none → rec.entries[i]? = some x →
      x.pictureDefects = (if missing picture = 0 then old.1 else min 65535 (old.1 + 1)) ∧
      x.soundDefects = (if missing main + missing assist = 0 then old.2 else min 65535 (old.2 + missing main + missing assist))) ∧
    (let lates := [(picture, FaultCause.picture), (main, .mainSound), (assist, .assistSound)].filter fun x => x.1 = .late
     (lates = [] → s.spares t .intake) ∧
     (∀ q, s.caps.intake = some q → lates ≠ [] → t.caps.intake = some { q with repeated := true } ∧ s.silent t .intakeFault) ∧
     (s.caps.intake = none → lates ≠ [] → ∃ q, t.caps.intake = some q ∧ q.kind = .late ∧ q.place = some (i, f) ∧
       q.clock = s.pwr.clock ∧ q.detail = beBytes 1 r ++ beBytes 4 u ∧ q.repeated = decide (1 < lates.length) ∧
       (q.cause = .picture ∨ q.cause = .mainSound ∨ (q.cause = .assistSound ∧ main ≠ .late)) ∧
       (∃ x ∈ lates, x.2 = q.cause) ∧ s.signals t .intakeFault))

/-- The gaps of a slot start were offered to the Sound capture, MAIN first (R100, R104). -/
def State.offersGaps (s t : State) (i f : Nat) (e : Entry) : Prop :=
  ∀ r rl, e.reels[r]? = some rl → ((e.reels.take r).map Reel.duration).sum ≤ f →
    f < ((e.reels.take r).map Reel.duration).sum + rl.duration →
    let pos : Pos := { entry := i, reel := r, unit := f - ((e.reels.take r).map Reel.duration).sum }
    let gap (track : Byte) (x : Take) (again : Bool) : Prop :=
      (∀ c : LossCause, x = .lost c → s.offers t .sound .gap .lost (some (i, f)) [track, c.offered.code] again) ∧
      (x = .late → s.offers t .sound .gap .late (some (i, f)) [track] again)
    let main := handedBy s.intake.sq0 pos
    let assist : Take := if e.assistChannels = 0 then .ready [] else handedBy s.intake.sq1 pos
    (main.unit ≠ none → assist.unit ≠ none → s.spares t .sound) ∧ gap 0 main (again := assist.unit.isNone) ∧
    (main.unit ≠ none → gap 1 assist (again := false))

/-- A gain with a fade to a target over `n` samples just begun (R92). -/
def Gain.begun (g : Gain) (target n : Nat) : Gain :=
  { cur := g.cur, target := target, ramp := some { start := g.cur, target := target, length := n, step := 0 } }

/-- Intake after a purge (R64, R69, R79). -/
def Intake.purged (x : Intake) : Intake :=
  { mode := .idle, pq := [], sq0 := [], sq1 := [], pqCursor := none, sq0Cursor := none, sq1Cursor := none, requests := [],
    slots := x.slots.map fun _ => none, seq := x.seq, station := .pq, ignoring := x.ignoring }

/-- A subtitle track whose tables are discarded and whose regions are empty (R132). -/
def SubtitleTrack.cleared (x : SubtitleTrack) : SubtitleTrack :=
  { x with current := none, next := none, regions := x.regions.map fun _ => none }

/-- The places of the Key Table with a pin set unpinned (R54). -/
def KeyTable.unpinned (k : KeyTable) (ids : List Id) : List (Option KeyRecord) :=
  k.places.map (Option.map fun r => if r.id ∈ ids then { r with pinned := false } else r)

/-- An output at entry into STOPPING: a delay change in DOWN or WAITING takes effect, and its switch gain goes up again (R99). -/
def Output.stopped (rate : SampleRate) (y : Output) : Output :=
  if y.phase = .down ∨ y.phase = .waiting then
    { y with delay := y.pendingDelay.getD y.delay, pendingDelay := none, phase := .up, switch := y.switch.begun 16384 (rate.hz / 200) }
  else y

/-- Entry into STOPPING with an outcome and a stop fade of so many milliseconds, by the hand-offs of R37. -/
def State.stopsWith (s t : State) (o : ShowOutcome) (ms : Nat) : Prop :=
  t.tl = { s.tl with mode := .frozen } ∧
  t.ctl = { s.ctl with state := .stopping, outcome := some o, pauseTimer := none,
                       event := s.ctl.reporting .stopping .stopping (some o) } ∧
  t.intake = s.intake.purged ∧
  t.snd = { s.snd with
    map := s.snd.pendingMap.getD s.snd.map, pendingMap := none, pause := s.snd.pause.begun 0 (s.tl.rate.hz * ms / 1000)
    main := { s.snd.main with unit := none }, assist := { s.snd.assist with unit := none }
    outputs := s.snd.outputs.map (Output.stopped s.tl.rate) } ∧
  t.subs = { main := s.subs.main.cleared, assist := s.subs.assist.cleared } ∧
  t.pic = { s.pic with showing := false } ∧
  t.meter = { s.meter with quiet := s.meter.quiet.map fun _ => 0 } ∧
  t.ports = { s.ports with picture := s.ports.picture ++ (if s.pic.showing then [.finish] else [])
                           overlay := s.ports.overlay ++ [.clearAll], assist := s.ports.assist ++ [.clearAll] } ∧
  s.signals t .show

/-- The return from ARMING or ARMED to LOADED (R32). -/
def State.disarmsWith (s t : State) (code : ShowCode) : Prop :=
  t.ctl = { s.ctl with state := .loaded, pins := [], armTimer := none, schedule := none,
                       event := s.ctl.reporting code .loaded none } ∧
  t.keys = { s.keys with places := s.keys.unpinned s.ctl.pins } ∧
  t.intake = s.intake.purged ∧
  t.subs = { main := s.subs.main.cleared, assist := s.subs.assist.cleared } ∧
  s.signals t .show

/-- A key record serves an entry that lists it (check 4 of R29). -/
def State.binds (s : State) (e : Entry) (i : Id) : Prop :=
  ∃ k, s.keys.find i = some k ∧ k.composition = e.composition ∧ ∃ t ∈ e.kinds, k.covers t = true

/-- The keys of an entry together cover its track kinds (check 4 of R29). -/
def State.unites (s : State) (e : Entry) : Prop :=
  e.keys ≠ [] → ∀ t ∈ e.kinds, ∃ i ∈ e.keys, ∃ k, s.keys.find i = some k ∧ k.covers t = true

/-- An entry passes check 4 of SHOW ARM. -/
def State.unlocks (s : State) (e : Entry) : Prop := (∀ i ∈ e.keys, s.binds e i) ∧ s.unites e

/-- A key id names a VALID record (check 5). -/
def State.validKey (s : State) (i : Id) : Prop := ∃ k, s.keys.find i = some k ∧ k.state = .valid

/-- The counted entries of a programme do not exceed a key's allowance (check 6). -/
def State.allows (s : State) (p : Programme) (i : Id) : Prop :=
  ∀ k n, s.keys.find i = some k → k.allowance = some n →
    k.charged + p.entries.countP (fun d => d.percentage.isSome && decide (i ∈ d.keys)) ≤ n

/-- The showing log has room for one more record (check 7). -/
def State.hasRoom (s : State) : Prop := s.acct.log.length < 48 ∨ ∃ r ∈ s.acct.log, r.collected = true

/-- The emergency pattern applied (R150): the hold ends, every pin takes its line's level, and lines and pairs are as R150 says. -/
def CueUnit.struck (x y : CueUnit) : Prop :=
  y = { x with lines := y.lines, pairs := y.pairs, hold := false } ∧ y.lines.length = x.lines.length ∧
  (∀ i l, i < 8 → x.lines[i]? = some l → ∃ m, y.lines[i]? = some m ∧ m.mode = l.mode ∧ m.latched = l.latched ∧ m.pin = m.level ∧
    ((x.pairOf (i / 2)).enabled = false → l.mode = .level →
      m.level = (if x.mask.getLsbD i then x.pattern.getLsbD i else l.level) ∧ m.pulse = l.pulse) ∧
    ((x.pairOf (i / 2)).enabled = false → l.mode = .pulse → m.level = false ∧ m.pulse = none) ∧
    ((x.pairOf (i / 2)).enabled = true → l.mode = .pair → m.level = false ∧ m.pulse = l.pulse)) ∧
  ∀ k p, k < 4 → x.pairs[k]? = some p → y.pairs[k]? = some (
    if p.enabled then
      { p with
        state := .off
        timer := if x.pinOf (2 * k) = true ∨ x.pinOf (2 * k + 1) = true ∨ p.state = .aOn ∨ p.state = .bOn then
            (if p.deadTime = 0 then none else some p.deadTime)
          else p.timer }
    else p)

/-! ### Tables of the manual that statements refer to -/

/-- The table of R145 with R146: a pair's state and dead timer after a request, from its state, dead timer and dead time. -/
def pairAfter (p : Pair) (t : PairTarget) : PairState × Option Nat :=
  let dead (st settled : PairState) : PairState × Option Nat :=
    if p.deadTime = 0 then (settled, none) else (st, some p.deadTime)
  match t, p.state with
  | .a, .off => if p.timer = none then (.aOn, none) else (.deadA, p.timer)
  | .b, .off => if p.timer = none then (.bOn, none) else (.deadB, p.timer)
  | .off, .off => (.off, p.timer)
  | .a, .aOn => (.aOn, p.timer)
  | .b, .bOn => (.bOn, p.timer)
  | .a, .bOn | .a, .deadA | .a, .deadB => dead .deadA .aOn
  | .b, .aOn | .b, .deadA | .b, .deadB => dead .deadB .bOn
  | .off, .aOn | .off, .bOn | .off, .deadA | .off, .deadB => dead .off .off

/-- The lines of a pair are as its state says, and nothing else of the Cue Unit moved (R142, R145): the pins follow the levels unless the
hold is set. -/
def CueUnit.pairMoved (x y : CueUnit) (k : Nat) (p : Pair) (st : PairState) (t : Option Nat) : Prop :=
  y = { x with lines := y.lines, pairs := x.pairs.set k { p with state := st, timer := t } } ∧
  (∀ i, i ≠ 2 * k → i ≠ 2 * k + 1 → y.lines[i]? = x.lines[i]?) ∧
  (∀ l, x.lines[2 * k]? = some l → y.lines[2 * k]? = some
    { l with level := decide (st = .aOn), pin := if x.hold then l.pin else decide (st = .aOn) }) ∧
  (∀ l, x.lines[2 * k + 1]? = some l → y.lines[2 * k + 1]? = some
    { l with level := decide (st = .bOn), pin := if x.hold then l.pin else decide (st = .bOn) })

/-- The filter of R147: accepted level, run count and last sample after a sample. -/
def filtered (x : BoothInput) (v : Bool) : BoothInput :=
  if x.accepted = some v then { x with run := 0, last := some v }
  else if x.run = 0 ∨ x.last ≠ some v then { x with run := 1, last := some v }
  else if x.run + 1 < 3 then { x with run := x.run + 1, last := some v }
  else { x with accepted := some v, run := 0, last := some v }

/-- The bytes of a clear unit as the store sends it (section 12.5). -/
def clearUnit (kind number : Nat) (payload : List Byte) : List Byte :=
  [0xE4, 0x16, 0x55, 0xAA, BitVec.ofNat 8 kind, 0] ++ beBytes 4 number ++ beBytes 4 payload.length ++ payload

/-! ### The millisecond boundary (R27, R64, R137, R147 to R149) -/

/-- Every running timer of the part has at least `k` milliseconds left. -/
def State.timersFrom (s : State) (k : Nat) : Prop :=
  (∀ l ∈ s.cue.lines, ∀ n, l.pulse = some n → k ≤ n) ∧ (∀ p ∈ s.cue.pairs, ∀ n, p.timer = some n → k ≤ n) ∧
  (∀ n, s.ctl.armTimer = some n → k ≤ n) ∧ (∀ n, s.ctl.pauseTimer = some n → k ≤ n) ∧
  ∀ r, some r ∈ s.intake.slots → k ≤ r.timer

/-- Every running timer of the part has at least two milliseconds left, so that none runs out at the next boundary. -/
def State.timersRunOn (s : State) : Prop := s.timersFrom 2

/-- Every running timer but the one whose expiry a command takes has at least two milliseconds left. -/
def State.othersRunOn (s : State) (c : Instr) : Prop :=
  (∀ (i : Fin 8) l n, c ≠ .pulseExpiry i → s.cue.lines[i.val]? = some l → l.pulse = some n → 2 ≤ n) ∧
  (∀ (k : Fin 4) p n, c ≠ .deadTimerExpiry k → s.cue.pairs[k.val]? = some p → p.timer = some n → 2 ≤ n) ∧
  (∀ n, c ≠ .armTimeout → s.ctl.armTimer = some n → 2 ≤ n) ∧ (∀ n, c ≠ .pauseLimitExpiry → s.ctl.pauseTimer = some n → 2 ≤ n) ∧
  ∀ (i : Fin 4) r, c ≠ .storageTimeout i → s.intake.slots[i.val]? = some (some r) → 2 ≤ r.timer

/-- The Cue Unit after a millisecond boundary at which no timer runs out (R137, R147). -/
def CueUnit.counted (x y : CueUnit) (levels : BitVec 8) : Prop :=
  y.lines = x.lines.map (fun l => { l with pulse := l.pulse.map (· - 1) }) ∧
  y.pairs = x.pairs.map (fun p => { p with timer := p.timer.map (· - 1) }) ∧
  y.inputs.length = x.inputs.length ∧
  (∀ n i, n < 8 → x.inputs[n]? = some i → y.inputs[n]? = some (filtered i (levels.getLsbD n))) ∧
  y.live = x.live ∧ y.waiting = x.waiting ∧ y.hold = x.hold ∧ y.mask = x.mask ∧ y.pattern = x.pattern ∧ y.details = x.details ∧
  y.skipCount = x.skipCount ∧ y.skipLast = x.skipLast

/-- The timers of the show after a millisecond boundary (R27). -/
def ShowControl.ticked (c : ShowControl) : ShowControl :=
  { c with armTimer := c.armTimer.map (· - 1), pauseTimer := c.pauseTimer.map (· - 1)
           pausedMs := if c.state = .paused then c.pausedMs + 1 else c.pausedMs }

/-- The timers of the storage slots after a millisecond boundary (R64). -/
def Intake.ticked (x : Intake) : Intake := { x with slots := x.slots.map (Option.map fun r => { r with timer := r.timer - 1 }) }

/-- The timers of the show and of the storage slots after a millisecond boundary at which none runs out (R27, R64). -/
def State.countsDown (s t : State) : Prop := t.ctl = s.ctl.ticked ∧ t.intake = s.intake.ticked

/-- The part after a millisecond boundary with these levels at its eight inputs, before any expiry and any accepted edge is acted on: the
timers have counted, the inputs are filtered, and in ACTIVE the next millisecond is 48 or 96 sample periods (R27, R64, R137, R147). -/
def State.ticked (s : State) (levels : BitVec 8) : State :=
  { s with
    ctl := s.ctl.ticked, intake := s.intake.ticked
    cue := { s.cue with
      lines := s.cue.lines.map fun l => { l with pulse := l.pulse.map (· - 1) }
      pairs := s.cue.pairs.map fun p => { p with timer := p.timer.map (· - 1) }
      inputs := s.cue.inputs.mapIdx fun n i => filtered i (levels.getLsbD n)
      msTaken := if s.pwr.state = .active then s.cue.msTaken - s.cue.msLength else s.cue.msTaken
      msLength := if s.pwr.state = .active then s.tl.rate.hz / 1000 else s.cue.msLength } }

/-- The part after a boundary that accepted a matching edge of an input, its action apart: the capture record is filled and the INPUT
details hold the action and its result (R148). -/
def State.accepted (s : State) (levels : BitVec 8) (n : Nat) (edge : Edge) (a : InputAction) (r : InputResult) : State :=
  let u := s.ticked levels
  { u with cue := { u.cue with
      captures := s.cue.captures.set n (some
        { edge := edge, place := s.place, clock := s.pwr.clock, fresh := true
          count := min 255 ((((s.cue.captures[n]?).join).map CaptureRecord.count).getD 0 + 1) })
      inputDetails := some { input := n, edge := edge, action := a, result := r
                             count := min 255 ((s.cue.inputDetails.map InputDetails.count).getD 0 + 1) } } }

/-! ### The sample period (R89, R90, R92, R97, R98, R101, R107) -/

/-- A gain after a sample period: a fade takes its next step by the formula of R92, or ends when its last step has been (R92). -/
def Gain.next (g : Gain) : Gain :=
  match g.ramp with
  | none => g
  | some r =>
    if 1 ≤ r.step ∧ r.length ≤ r.step then { g with ramp := none }
    else
      { g with
        cur := if r.length ≤ r.step + 1 then r.target
          else ((r.start : Int) + (((r.target : Int) - (r.start : Int)) * ((r.step + 1 : Nat) : Int)).tdiv (r.length : Int)).toNat
        ramp := some { r with step := r.step + 1 } }

/-- A switch gain's phase after a sample period: the fade that has taken its last step makes DOWN WAITING and UP STEADY (R98). -/
def Output.nextPhase (y : Output) : SwitchPhase :=
  let ended : Bool := match y.switch.ramp with
    | some r => decide (1 ≤ r.step ∧ r.length ≤ r.step)
    | none => false
  match ended, y.phase with
  | true, .down => .waiting
  | true, .up => .steady
  | _, ph => ph

/-- The value of a channel of a track at phase `p` of a slot of `n` samples, with a concealment ramp of `r` samples: 0 in a gap, else the
sample scaled by the concealment factor (R86, R89, R100, R101). -/
def SoundTrack.plays (k : SoundTrack) (channels c p n r : Nat) : Int :=
  let factor : Nat :=
    if k.previousGap = true ∧ p < r then 16384 * (p + 1) / r
    else if k.fadeOutDue = true ∧ n - r ≤ p then 16384 - 16384 * (p - (n - r) + 1) / r
    else 16384
  match k.unit with
  | some bs =>
    if k.gap = false ∧ c < channels then
      ((BitVec.ofNat 24 (field bs (3 * (p * channels + c)) 3)).toInt * (factor : Int) + 8192) / 16384
    else 0
  | none => 0

/-- The value of a source in the next sample period: sources 0 to 15 are the main channels, 16 and 17 the assist channels, and all are 0
unless the mode is ADVANCING (R86, R89). -/
def State.sourceNow (s : State) (c : Nat) : Int :=
  let track (k : SoundTrack) (channels c : Nat) : Int :=
    k.plays channels c s.tl.phase s.tl.samplesPerFrame (s.tl.rate.hz / 1000)
  if s.tl.mode = .advancing then
    if c < 16 then track s.snd.main s.snd.mainChannels c
    else if c < 18 then track s.snd.assist s.snd.assistChannels (c - 16) else 0
  else 0

/-- The fader stage of an output in the next sample period: the routes' sum, scaled and saturated, times the effective gain, scaled and
saturated (R89, R90). -/
def State.faderNow (s : State) (o : Nat) (y : Output) : Int :=
  let x := ((s.snd.map.filter fun r => r.output = o).map fun r => s.sourceNow r.source * (r.gain : Int)).sum
  let m := max (-8388608) (min 8388607 ((x + 8192) / 16384))
  let gain : Nat := y.fader.next.cur * s.snd.pause.next.cur / 16384
  max (-8388608) (min 8388607 ((m * (gain : Int) + 8192) / 16384))

/-! ### The report of a measurement (R113) -/

/-- The peak of a result. -/
def peakAt (l : List MeterResult) (c : Nat) : Nat := ((l[c]?).map MeterResult.peak).getD 0

/-- The METER details after the report of a pass that wrote the `n` results of `l` from `first` on: the highest peak of the pass with its
channel or slot, the lowest where several are equal (R113). -/
def Meter.reported (x y : Meter) (l : List MeterResult) (first n : Nat) : Prop :=
  ∀ tr, x.trigger = some tr → 1 ≤ n →
    ∃ d, y.details = some d ∧ d.mode = x.mode ∧ d.point = x.point ∧ d.pass = x.pass ∧ d.trigger = tr ∧
      first ≤ d.channel ∧ d.channel < first + n ∧ d.peak = peakAt l d.channel ∧
      ∀ c, first ≤ c → c < first + n → peakAt l c ≤ d.peak ∧ (c < d.channel → peakAt l c < d.peak)

/-! ### The end of a slot, and what a slot start sends and fires (R7 to R10, R129 to R131, R134, R139, R140) -/

/-- The next sample period is the last of a slot of the entry `e`, in a RUNNING show. -/
def State.endsSlot (s : State) (e : Entry) : Prop :=
  s.pwr.state = .active ∧ s.composed = true ∧ s.ctl.state = .running ∧ s.tl.mode = .advancing ∧
  s.tl.phase + 1 = s.tl.samplesPerFrame ∧ s.entryAt s.tl.entry = some e ∧ e.sound ∧ s.tl.total = e.total

/-- Frame `f` is the first of no reel of an entry but its reel 0 (R9). -/
def Entry.withinReel (e : Entry) (f : Nat) : Prop :=
  ∀ r, r < e.reels.length → 1 ≤ r → ((e.reels.take r).map Reel.duration).sum ≠ f

/-- A cue fires at frame `f` of an entry; its total stands for the entry end (R14, R139). -/
def CueRecord.dueAt (c : CueRecord) (entry total f : Nat) : Prop :=
  c.enabled = true ∧ c.entry = entry ∧ (match c.anchor with | .start => min c.offset total | .finish => total - c.offset) = f

/-- What an output is sent for events of entry `i`, in their order, from the occupants of its regions, and the occupants after (R131). -/
def sendsOf (i : Nat) : List SubtitleEvent → List (Option Occupant) → List SubtitleRecord × List (Option Occupant)
  | [], rs => ([], rs)
  | e :: rest, rs =>
    let cut : List SubtitleRecord := match rs[e.region]? with
      | some (some o) => if e.inFrame < o.outFrame then [.cut i e.region e.inFrame] else []
      | _ => []
    let after := sendsOf i rest
      (rs.set e.region (some { entry := i, number := e.number, inFrame := e.inFrame, outFrame := e.outFrame }))
    (cut ++ [.present i { e with sent := true }] ++ after.1, after.2)

/-- The events of a track that are due and not over at frame `f` of entry `i`: those of CURRENT, then those of NEXT (R130). -/
def SubtitleTrack.toSend (x : SubtitleTrack) (i f : Nat) : List SubtitleEvent :=
  let due (p : Option ReelTable) : List SubtitleEvent := match p with
    | some c =>
      if c.entry = i then c.events.filter fun e => !e.sent && decide (e.inFrame - x.lead ≤ f) && decide (f < e.outFrame) else []
    | none => []
  due x.current ++ due x.next

/-- The records a track's output is sent at the slot start of frame `f` of entry `i` (R130, R131). -/
def SubtitleTrack.sends (x : SubtitleTrack) (i f : Nat) : List SubtitleRecord :=
  if x.enabled then (sendsOf i (x.toSend i f) x.regions).1 else []

/-- A track after the slot start of frame `f` of entry `i`: every event that is due has its sent flag (R130, R131). -/
def SubtitleTrack.sentAt (x : SubtitleTrack) (i f : Nat) : SubtitleTrack :=
  let mark (c : ReelTable) : ReelTable :=
    if c.entry = i then { c with events := c.events.map fun e => if e.inFrame - x.lead ≤ f then { e with sent := true } else e } else c
  if x.enabled then
    { x with current := x.current.map mark, next := x.next.map mark, regions := (sendsOf i (x.toSend i f) x.regions).2 }
  else x

/-- A track after the reel start of a reel: its tables handed over and CURRENT's pending defects handed on (R129, R134). -/
def SubtitleTrack.startsReel (x : SubtitleTrack) (reel : Nat × Nat) : SubtitleTrack :=
  let y := x.broughtTo reel
  { y with current := y.current.map fun c => { c with defects := 0 } }

/-- The subtitle defects that the reel start of a reel hands to the record of its entry (R134). -/
def SubtitleTrack.hands (x : SubtitleTrack) (reel : Nat × Nat) : Nat :=
  match (x.broughtTo reel).current with
  | some c => if c.entry = reel.1 then c.defects else 0
  | none => 0

/-- The subtitle tracks `x` took the slot start of frame `f` of entry `i`: their records went out and their events are marked (R130,
R131). -/
def State.sentFrom (s t : State) (main assist : SubtitleTrack) (i f : Nat) : Prop :=
  t.subs = { main := main.sentAt i f, assist := assist.sentAt i f } ∧
  t.ports.overlay = s.ports.overlay ++ main.sends i f ∧ t.ports.assist = s.ports.assist ++ assist.sends i f

/-- Whether a cue is skipped: the mode of its line is not the one it was written for (R139). -/
def CueUnit.passesOver (x : CueUnit) (c : CueRecord) : Prop :=
  match c.action with
  | .line i _ | .pulse i _ => c.writtenMode ≠ some (x.modeOf i)
  | .pair k _ => c.writtenMode ≠ some (x.modeOf (2 * k))
  | .fade _ _ _ | .meter | .subtitle _ _ | .notice => False

/-- A cue fired at a frame of its entry in the sample period from `s` to `t`: the Cue Unit went from `x` to `y`, and the other blocks its
action names did as R140 says; a cue whose line changed its mode is skipped (R139, R140, R142, R145). -/
def State.fires (s t : State) (c : CueRecord) (frame : Nat) (x y : CueUnit) : Prop :=
  (x.passesOver c → y = { x with skipCount := min 255 (x.skipCount + 1), skipLast := some c.number }) ∧
  (¬x.passesOver c →
    match c.action with
    | .line i op => ∀ l, x.lines[i]? = some l →
      let b : Bool := match op with | .set => true | .clear => false | .toggle => !l.level
      y = { x with lines := x.lines.set i { l with level := b, pin := if x.hold then l.pin else b
                                                   pulse := if op = .clear then none else l.pulse } }
    | .pulse i w => ∀ l, x.lines[i]? = some l →
      y = { x with lines := x.lines.set i { l with level := true, pin := if x.hold then l.pin else true, pulse := some w } }
    | .pair k g => ∀ p, x.pairs[k]? = some p → x.pairMoved y k p (pairAfter p g).1 (pairAfter p g).2
    | .fade set target ms => y = x ∧
      ∀ o z, s.snd.outputs[o]? = some z → ∃ w, t.snd.outputs[o]? = some w ∧
        w.fader = if set.getLsbD o then z.fader.next.begun target (min ms 60000 * s.tl.rate.hz / 1000) else z.fader.next
    | .meter => y = x ∧
      (s.meter.state = .idle → ∃ n, n = s.meter.windowMs * s.tl.rate.hz / 1000 ∧ t.meter = { s.meter with
        results := s.meter.results.map (fun _ => { peak := 0, pass := 0, valid := false })
        slots := s.meter.slots.map (fun _ => { peak := 0, pass := 0, valid := false })
        length := n, channel := s.meter.base, left := n, peak := 0, windows := 0, pass := 1, trigger := some .cue,
        state := .measuring }) ∧
      (s.meter.state = .off → t.meter = s.meter)
    | .subtitle tr on => y = x ∧
      ((s.subs.track tr).current = none → (s.subs.track tr).next = none →
        let z := s.subs.track tr
        let off : Prop := z.enabled = true ∧ on = false
        (off → t.subs.track tr = { z with enabled := false, regions := z.regions.map fun _ => none }) ∧
        (¬off → t.subs.track tr = { z with enabled := on }) ∧
        (tr = .main → (off → t.ports.overlay = s.ports.overlay ++ [.clearAll]) ∧ (¬off → t.ports.overlay = s.ports.overlay)) ∧
        (tr = .assist → (off → t.ports.assist = s.ports.assist ++ [.clearAll]) ∧ (¬off → t.ports.assist = s.ports.assist)))
    | .notice =>
      y = { x with details := some { number := c.number, entry := c.entry, frame := frame
                                     count := min 255 ((x.details.map CueDetails.count).getD 0 + 1) } } ∧
      s.signals t .cue)

end Sys2Proof.Machine
end

