-- ==== Sys2Proof/Certificates/Slice0/Obligations.lean ====
section
/-!
DEFINITION. The statements for the provers. Each docstring names the rules of the manual, or the sections, that it formalises.
-/

open Sys2Proof Sys2Proof.Machine

/-! ### The step -/

/-- A step runs the command at the front of the queue on the state with the queue's rest, and the empty queue idles (log entry 2). -/
def Obligations.StepRunsTheFrontCommand : Prop :=
  ∀ (c : Instr) (rest : List Instr) (s : State),
    step { s with pending := c :: rest } = exec c { s with pending := rest } ∧
    step { s with pending := [] } = .next { s with pending := [] }

/-- Every command answers a next state in every state, and none touches the queue of commands. A command that cannot happen in a state
changes nothing: a frame that does not stand to be taken or is another row's, bytes and ticks that the power state does not let in, the end of a
transmission that is not there, an expiry whose timer has not run out, a completion that is not due; only a free transmitter may take
its next frame. That such a command leaves the state as it is, and that a power-on keeps the commands still to come, are the model's
choices (log entries 1, 4, 13, 21 and 23). -/
def Obligations.EveryCommandAnswersANextState : Prop :=
  ∀ (c : Instr) (s : State),
    let stands (c : Instr) : Prop := exec c s = .next s
    let rests (c : Instr) : Prop := s.composed = true → ∃ x, exec c s = .next { s with link := { s.link with transmitter := x } }
    let ended (g : Gain) : Prop := ∃ r, g.ramp = some r ∧ 1 ≤ r.step ∧ r.length ≤ r.step
    (∃ t, exec c s = .next t ∧ t.pending = s.pending) ∧
    (∀ f, c.frame = some f → s.takes f = false → stands c) ∧
    (∀ tag p, stands (.cueEditWrite tag (2 :: p))) ∧ (∀ tag p, p.head? ≠ some 2 → stands (.cueEditDelete tag p)) ∧
    (∀ kind tag p, (128 ≤ kind.toNat → stands (.unknownKind kind tag p)) ∧
      (kind.toNat < 128 → stands (.replyKindFrameDiscard kind tag p))) ∧
    (∀ bs, s.pwr.state = .night → stands (.frameReceived bs) ∧ stands (.lengthFault bs) ∧ stands (.linkGapTimeout bs)) ∧
    (s.link.transmitter = none → stands .transmitComplete) ∧
    (s.pwr.state ≠ .night → stands .wakeLineFall) ∧
    (s.pwr.state ≠ .active → stands .samplePeriod) ∧
    (∀ levels, s.pwr.state = .night ∨ (s.pwr.state = .active ∧ s.cue.msTaken < s.cue.msLength) →
      stands (.millisecondBoundary levels)) ∧
    (∀ i : Fin 8, s.pwr.state = .night ∨ (∀ l, s.cue.lines[i.val]? = some l → l.pulse ≠ some 0) → stands (.pulseExpiry i)) ∧
    (∀ k : Fin 4, s.pwr.state = .night ∨ (∀ p, s.cue.pairs[k.val]? = some p → p.timer ≠ some 0) → stands (.deadTimerExpiry k)) ∧
    (∀ o : Fin 18, (∀ y, s.snd.outputs[o.val]? = some y → ¬ended y.fader) → stands (.gainFadeEnd (.host o))) ∧
    (¬ended s.snd.pause → stands (.gainFadeEnd .pause)) ∧
    (∀ o : Fin 18, (∀ y, s.snd.outputs[o.val]? = some y → y.phase = .down → ¬ended y.switch) → stands (.switchDownComplete o)) ∧
    (∀ o : Fin 18, (∀ y, s.snd.outputs[o.val]? = some y → y.phase = .up → ¬ended y.switch) → stands (.switchUpComplete o)) ∧
    (s.ctl.state ≠ .arming ∨ s.ctl.armTimer ≠ some 0 → rests .armTimeout) ∧
    (s.ctl.state ≠ .paused ∨ s.ctl.pauseTimer ≠ some 0 → rests .pauseLimitExpiry) ∧
    (s.ctl.state ≠ .stopping ∨ (∃ r, s.snd.pause.ramp = some r ∧ (r.step = 0 ∨ r.step < r.length)) → rests .stopFadeComplete) ∧
    (s.meter.state ≠ .measuring ∨ s.meter.left ≠ 0 → rests .meterWindowComplete) ∧
    (∀ i : Fin 4, (∀ r, s.intake.slots[i.val]? = some (some r) → r.timer ≠ 0) → rests (.storageTimeout i)) ∧
    (s.intake.mode = .idle → rests .sweepVisit) ∧
    (s.pwr.state ≠ .active ∨ s.intake.ignoring = true → ∀ seq code bs,
      rests (.storageData seq bs) ∧ rests (.storageError seq code) ∧ stands (.storageRecordDiscard bs))

/-! ### What every step keeps -/

/-- Mode, outcome, held programme, schedule, timers and open record follow the show state (R2, section 2.3, R155, R176). -/
def Obligations.ShowStateKeptByEveryStep : Prop :=
  ∀ s t : State, s.showKept → step s = .next t → t.showKept

/-- The position of a showing stays within its entry and slot (R1, R2, R5, R21 to R24). -/
def Obligations.PositionKeptByEveryStep : Prop :=
  ∀ s t : State, s.showKept → s.programmeKept → s.positionKept → step s = .next t → t.programmeKept ∧ t.positionKept

/-- Key ids stay distinct, and the pinned records stay those of the pin set (R43, R50, R54). -/
def Obligations.KeysKeptByEveryStep : Prop :=
  ∀ s t : State, s.showKept → s.keysKept → step s = .next t → t.keysKept

/-- Intake's queues, list and slots stay within their capacities, and are empty in IDLE (R64, R67, R70, R79, R80). -/
def Obligations.IntakeKeptByEveryStep : Prop :=
  ∀ s t : State, s.showKept → s.intakeKept → step s = .next t → t.intakeKept

/-- The showing log stays within 48 records, only its newest one open (R154, R155, R161, R163). -/
def Obligations.LogKeptByEveryStep : Prop :=
  ∀ s t : State, s.showKept → s.logKept → step s = .next t → t.logKept

/-- The pending order holds each source at most once, and only enabled ones (R168, R169, R171, R172). -/
def Obligations.NoticesKeptByEveryStep : Prop :=
  ∀ s t : State, s.noticesKept → step s = .next t → t.noticesKept

/-- Receive queue and overflow list stay within four, the receiver within one frame, and NIGHT leaves the link empty (R176, R183,
R184). -/
def Obligations.LinkKeptByEveryStep : Prop :=
  ∀ s t : State, s.linkKept → step s = .next t → t.linkKept

/-- The two lines of an interlocked pair are never active together at the pins, and while the hold is clear every pin is at its
line's configured level (R137, R145). -/
def Obligations.InterlockKeptByEveryStep : Prop :=
  ∀ s t : State, s.linesKept → step s = .next t → t.linesKept

/-- What every step keeps holds after a power-on, and every field of every block has the value written out here: those that the manual
gives (R3, R21, R23, R27, R44, R47, R64, R67 to R70, R80, R81, R84, R86, R106, R116, R119, R137, R154, R165, R168, R173, R176, R183,
R184), CLEAR ALL sent on both subtitle outputs (R133), and for the rest the model's choice (log entries 7 and 9). -/
def Obligations.PowerOnStateIsSound : Prop :=
  let s := State.reset
  let still (g : Nat) : Gain := { cur := g, target := g, ramp := none }
  let silent : SoundTrack := { unit := none, gap := false, fadeOutDue := false, previousGap := false }
  let unmeasured : MeterResult := { peak := 0, pass := 0, valid := false }
  let untitled (regions : Nat) : SubtitleTrack :=
    { enabled := true, lead := 2, current := none, next := none, markerEntry := 0, markerReel := 0
      regions := List.replicate regions none }
  s.showKept ∧ s.programmeKept ∧ s.positionKept ∧ s.keysKept ∧ s.intakeKept ∧ s.logKept ∧ s.noticesKept ∧ s.linkKept ∧ s.linesKept ∧
  s.pending = [] ∧ s.freeCount = 0 ∧
  s.tl = { mode := .still, rate := .hz48000, entry := 0, reel := 0, frame := 0, phase := 0, samplesPerFrame := 0, total := 0
           countPoint := none } ∧
  s.ctl = { state := .empty, programme := none, build := none, outcome := none, pins := [], armTimer := none, schedule := none
            pauseTimer := none, pausedMs := 0, event := none } ∧
  s.keys = { places := List.replicate 32 none, details := { changed := 0, count := 0, last := none } } ∧
  s.intake = { mode := .idle, pq := [], sq0 := [], sq1 := [], pqCursor := none, sq0Cursor := none, sq1Cursor := none, requests := []
               slots := [none, none, none, none], seq := 0, station := .pq, ignoring := false } ∧
  s.pic = { showing := false, last := none } ∧
  s.snd = { map := (List.range 18).map fun k => { source := k, output := k, gain := 16384 }
            pendingMap := none, pause := still 16384, globalDelay := 0
            outputs := List.replicate 18
              { fader := still 16384, trim := 0, delay := 0, switch := still 16384, phase := .steady, pendingDelay := none
                line := [], out := 0 }
            main := silent, assist := silent, mainChannels := 0, assistChannels := 0, running := true } ∧
  s.meter = { point := .output, mode := .single, base := 0, group := 2, windowMs := 100, state := .idle, trigger := none, length := 0
              channel := 0, left := 0, peak := 0, windows := 0, pass := 0, results := List.replicate 18 unmeasured
              slots := List.replicate 8 unmeasured, details := none, watched := 0, threshold := 0, passCount := 3
              quiet := List.replicate 18 0, alarms := 0, silence := { raised := 0, last := none, count := 0 } } ∧
  s.subs = { main := untitled 4, assist := untitled 1 } ∧
  s.cue = { live := [], waiting := [], skipCount := 0, skipLast := none
            lines := List.replicate 8 { mode := .level, level := false, pulse := none, pin := false, latched := false }
            pairs := List.replicate 4 { enabled := false, deadTime := 0, state := .off, timer := none }
            mask := 0, pattern := 0, hold := false
            inputs := List.replicate 8 { edge := .rise, action := .none, accepted := none, run := 0, last := none }
            captures := List.replicate 8 none, details := none, inputDetails := none, msTaken := 0, msLength := 48 } ∧
  s.acct = { log := [], counter := 0, count := none, logDetails := none } ∧
  s.caps = { intake := none, sound := none, subtitle := none, link := none } ∧
  s.notice = { enables := BitVec.allOnes 13, order := [] } ∧
  s.pwr = { state := .active, transition := .none, clock := 0, clockSet := false, wakeTime := none, woke := false, wake := none } ∧
  s.link = { receiver := .awaiting, queue := [], reply := none, overflow := [], ahead := 0, transmitter := none
             rate := .baud921600, strap := .baud921600 } ∧
  s.ports = { control := [], storage := [], picture := [], overlay := [.clearAll], assist := [.clearAll] }

/-! ### The control link (chapter 12) -/

/-- A frame that the receiver takes in whole, with the check the part computes, joins the receive queue as it was sent; with the
queue full it is answered OVERFLOW or discarded, and with a transition pending it is discarded (R182 to R184, R177). -/
def Obligations.ReceivedFrameIsTheFrameSent : Prop :=
  ∀ (f : Frame) (s : State), f.payload.length ≤ 1024 → s.pwr.state ≠ .night → s.link.receiver = .awaiting → s.composed = true →
    leaves (.frameReceived f.bytes) s [.link] fun t =>
      t.link.receiver = .awaiting ∧ t.link.reply = s.link.reply ∧ t.link.ahead = s.link.ahead ∧
      (s.pwr.transition = .none → s.link.queue.length < 4 →
        t.link.queue = s.link.queue ++ [f] ∧ t.link.overflow = s.link.overflow) ∧
      (s.pwr.transition = .none → 4 ≤ s.link.queue.length → f.kind.toNat < 128 → s.link.overflow.length < 4 →
        t.link.queue = s.link.queue ∧
        t.link.overflow = s.link.overflow ++ [{ kind := f.kind + 128, tag := f.tag, payload := [18] }]) ∧
      (s.pwr.transition ≠ .none ∨ (4 ≤ s.link.queue.length ∧ (128 ≤ f.kind.toNat ∨ 4 ≤ s.link.overflow.length)) →
        t.link.queue = s.link.queue ∧ t.link.overflow = s.link.overflow)

/-- A length field out of range, a gap within a frame and a wrong check each discard the frame without a reply and are offered to the LINK
record with cause and 6-byte detail; a gap ends DISCARDING (R166, R183). A frame of kind 0 or of a kind without an owner is answered
UNKNOWN_KIND, and a frame of kind 128 to 255 is taken without a reply; the kinds with an owner are those of the table of section 12.4
(R184). -/
def Obligations.LinkFaultsAndUnownedFrames : Prop :=
  (∀ (bytes : List Byte) (s : State), s.pwr.state ≠ .night → s.link.receiver = .awaiting → s.composed = true →
    let captured (t : State) (cause : FaultCause) (detail : List Byte) : Prop :=
      s.offers t .link .frame cause s.place detail ∧ (∀ u, u ≠ .link → t.caps.get u = s.caps.get u) ∧
      t.link.queue = s.link.queue ∧ t.link.reply = s.link.reply ∧ t.link.overflow = s.link.overflow
    (badFrameStart bytes = true →
      leaves (.lengthFault bytes) s [.link, .caps, .notice] fun t =>
        t.link.receiver = .discarding ∧ captured t .length ([0, 2] ++ bytes ++ [0, 0])) ∧
    (partialFrame bytes = true → bytes ≠ [] →
      leaves (.linkGapTimeout bytes) s [.link, .caps, .notice] fun t =>
        t.link.receiver = .awaiting ∧
        captured t .timeout (beBytes 2 bytes.length ++ beBytes 2 (if bytes.length < 2 then 0 else field bytes 0 2) ++
          [(bytes[2]?).getD 0, (bytes[3]?).getD 0])) ∧
    (wholeFrame bytes = true → (bytes.drop (bytes.length - 2)) ≠ beBytes 2 (crc16 (bytes.take (bytes.length - 2))).toNat →
      leaves (.frameReceived bytes) s [.link, .caps, .notice] fun t =>
        t.link.receiver = .awaiting ∧
        captured t .check (beBytes 2 bytes.length ++ bytes.take 2 ++ [(bytes[2]?).getD 0, (bytes[3]?).getD 0])) ∧
    leaves (.linkGapTimeout []) { s with link := { s.link with receiver := .discarding } } [.link] fun t =>
      t.link = s.link) ∧
  let owned (k : Nat) : Prop :=
    (1 ≤ k ∧ k ≤ 5) ∨ (8 ≤ k ∧ k ≤ 13) ∨ (16 ≤ k ∧ k ≤ 27) ∨ (32 ≤ k ∧ k ≤ 36) ∨ (40 ≤ k ∧ k ≤ 48) ∨ k = 50 ∨ k = 51 ∨
    (56 ≤ k ∧ k ≤ 65) ∨ (72 ≤ k ∧ k ≤ 74)
  (∀ kind : Byte, unknown kind = true ↔ kind.toNat < 128 ∧ ¬owned kind.toNat) ∧
  ∀ (kind tag : Byte) (p : List Byte) (s : State), s.asks (requestFrame kind tag p) →
    (kind.toNat < 128 → ¬owned kind.toNat →
      refuses (.unknownKind kind tag p) s (requestFrame kind tag p) .unknownKind []) ∧
    (128 ≤ kind.toNat →
      leaves (.replyKindFrameDiscard kind tag p) s [.link] fun t =>
        t.link = { s.link with queue := s.link.queue.tail })

/-- A frame that has left the transmitter: a reply empties the buffer and an AWAITING notice follows it; an OVERFLOW reply leaves the
list; a notice marks its source SENT (R170, R184). -/
def Obligations.TransmissionEnds : Prop :=
  ∀ (f : Frame) (s : State), s.composed = true → s.pwr.transition = .none → s.pwr.state ≠ .night →
    let sent (t : State) : Prop := t.ports = { s.ports with control := s.ports.control ++ [f] }
    (s.link.transmitter = some (.reply, f) →
      leaves .transmitComplete s [.link, .ports] fun t =>
        sent t ∧ t.link.reply = none ∧ t.link.queue = s.link.queue ∧ t.link.overflow = s.link.overflow ∧
        t.link.transmitter =
          (match s.notice.order.find? (fun e => e.mark = .awaiting) with
           | some e => some (.notice e.source,
               { kind := 255, tag := 0, payload := BitVec.ofNat 8 e.source.num :: e.summary.getD [] })
           | none => s.link.overflow.head?.map fun o => (.overflow, o))) ∧
    (s.link.transmitter = some (.overflow, f) →
      leaves .transmitComplete s [.link, .ports] fun t =>
        sent t ∧ t.link.reply = s.link.reply ∧ t.link.queue = s.link.queue ∧ t.link.overflow = s.link.overflow.tail) ∧
    (∀ src, s.link.transmitter = some (.notice src, f) →
      leaves .transmitComplete s [.link, .ports, .notice] fun t =>
        sent t ∧ t.link.reply = s.link.reply ∧ t.link.queue = s.link.queue ∧ t.link.overflow = s.link.overflow ∧
        t.notice.enables = s.notice.enables ∧
        t.notice.order = s.notice.order.map fun e => if e.source = src then { e with mark := .sent } else e)

/-- STATUS is answered with the fields of R186 in their order, and changes nothing but the link; with a payload it is refused
BAD_LENGTH. -/
def Obligations.StatusReportsTheState : Prop :=
  ∀ (tag : Byte) (p : List Byte) (s : State), s.asks (requestFrame 1 tag p) →
    (p = [] →
      replies (.status tag p) s (requestFrame 1 tag p) .ok
        ([0x04, 0x16, 1, s.pwr.state.code, s.ctl.state.code, s.tl.mode.code] ++ beBytes 1 s.tl.entry ++ beBytes 1 s.tl.reel ++
          beBytes 4 s.tl.frame ++ beBytes 2 s.tl.samplesPerFrame ++ [s.tl.rate.code] ++ beBytes 4 s.pwr.clock ++
          [flagByte s.pwr.clockSet] ++
          (match s.pwr.wakeTime with | some n => 1 :: beBytes 4 n | none => [0, 0, 0, 0, 0]) ++ [flagByte s.pwr.woke] ++
          (match s.pwr.wake with | some w => w.1.code :: beBytes 4 w.2 | none => [0, 0, 0, 0, 0]) ++
          [s.link.rate.code] ++ beBytes 1 s.notice.order.length) [] fun _ => True) ∧
    (p ≠ [] → refuses (.status tag p) s (requestFrame 1 tag p) .badLength [])

/-! ### Notices and fault capture (chapter 10) -/

/-- NOTICE CLEAR takes the named source out of the pending order, withdraws its frame and answers with the order; NOTICE ENABLE gives every
source its enable, clears the pending ones it disables with their frames, and answers with the set and the order (R171, R172). A frame
that is already in the transmitter goes out whole, but no longer as the source's: the model's choice (log entry 14). -/
def Obligations.NoticeClearAndNoticeEnable : Prop :=
  ∀ (tag : Byte) (p : List Byte) (s : State),
    (s.asks (requestFrame 3 tag p) →
      (p.length ≠ 1 → refuses (.noticeClear tag p) s (requestFrame 3 tag p) .badLength []) ∧
      (∀ n : Byte, p = [n] → 12 < n.toNat → refuses (.noticeClear tag p) s (requestFrame 3 tag p) .badField []) ∧
      ∀ src : Source, p = [BitVec.ofNat 8 src.num] →
        let order := s.notice.order.filter fun e => e.source ≠ src
        replies (.noticeClear tag p) s (requestFrame 3 tag p) .ok
          (beBytes 1 order.length ++ order.flatMap fun e => [BitVec.ofNat 8 e.source.num, e.mark.code]) [.notice] fun t =>
            t.notice.order = order ∧ t.notice.enables = s.notice.enables ∧ ∀ f, t.link.transmitter ≠ some (.notice src, f)) ∧
    (s.asks (requestFrame 2 tag p) →
      (p.length ≠ 2 → refuses (.noticeEnable tag p) s (requestFrame 2 tag p) .badLength []) ∧
      (p.length = 2 → 8192 ≤ field p 0 2 → refuses (.noticeEnable tag p) s (requestFrame 2 tag p) .badField []) ∧
      ∀ set : BitVec 13, p = beBytes 2 set.toNat →
        let order := s.notice.order.filter fun e => set.getLsbD e.source.num
        replies (.noticeEnable tag p) s (requestFrame 2 tag p) .ok
          (beBytes 2 set.toNat ++ beBytes 1 order.length ++ order.flatMap fun e => [BitVec.ofNat 8 e.source.num, e.mark.code])
          [.notice] fun t =>
            t.notice.order = order ∧ t.notice.enables = set ∧
            ∀ src f, set.getLsbD src.num = false → t.link.transmitter ≠ some (.notice src, f))

/-- FAULT READ answers with the state of the named record and every field of a HELD one, and changes nothing; FAULT CLEAR answers with the
record as it stood and frees it (R165, R167). The bytes are kind, cause, entry and frame with presence bytes, clock, detail length,
detail and repeat flag: the layout is the model's choice (log entry 11), as are the 4 bytes of the frame (log entry 37). -/
def Obligations.FaultReadAndFaultClear : Prop :=
  ∀ (tag : Byte) (p : List Byte) (s : State),
    let record (n : Byte) : Option FaultRecord :=
      if n = 0 then s.caps.intake else if n = 1 then s.caps.sound else if n = 2 then s.caps.subtitle else s.caps.link
    let told (x : Option FaultRecord) : List Byte := match x with
      | none => [0]
      | some r =>
        [1, r.kind.code, r.cause.code] ++
          (match r.place with | some y => 1 :: (beBytes 1 y.1 ++ 1 :: beBytes 4 y.2) | none => [0, 0, 0, 0, 0, 0, 0]) ++
          beBytes 4 r.clock ++ beBytes 1 r.detail.length ++ r.detail ++ [if r.repeated then 1 else 0]
    (s.asks (requestFrame 4 tag p) →
      (p.length ≠ 1 → refuses (.faultRead tag p) s (requestFrame 4 tag p) .badLength []) ∧
      ∀ n : Byte, p = [n] →
        (3 < n.toNat → refuses (.faultRead tag p) s (requestFrame 4 tag p) .badField []) ∧
        (n.toNat ≤ 3 → replies (.faultRead tag p) s (requestFrame 4 tag p) .ok (told (record n)) [] fun _ => True)) ∧
    (s.asks (requestFrame 5 tag p) →
      (p.length ≠ 1 → refuses (.faultClear tag p) s (requestFrame 5 tag p) .badLength []) ∧
      ∀ n : Byte, p = [n] →
        (3 < n.toNat → refuses (.faultClear tag p) s (requestFrame 5 tag p) .badField []) ∧
        (n.toNat ≤ 3 →
          replies (.faultClear tag p) s (requestFrame 5 tag p) .ok (told (record n)) [.caps] fun t =>
            t.caps = { intake := if n = 0 then none else s.caps.intake, sound := if n = 1 then none else s.caps.sound
                       subtitle := if n = 2 then none else s.caps.subtitle, link := if n = 3 then none else s.caps.link }))

/-! ### Clock and power (chapter 11) -/

/-- CLOCK SET sets the clock and its flag, evaluates every key, reports the changes of state and makes the wake test; WAKE AT sets or
removes a later wake time (R174, R175, R45 to R47). Stated for a part without a scheduled start: ScheduledStart states the other. -/
def Obligations.ClockSetAndWakeAt : Prop :=
  ∀ (tag : Byte) (p : List Byte) (s : State),
    (s.asks (requestFrame 8 tag p) →
      (p.length ≠ 4 → refuses (.clockSet tag p) s (requestFrame 8 tag p) .badLength []) ∧
      (p.length = 4 → s.ctl.schedule = none →
        let v := field p 0 4
        replies (.clockSet tag p) s (requestFrame 8 tag p) .ok (beBytes 4 s.pwr.clock ++ beBytes 4 v)
          [.pwr, .keys, .notice, .freeCount] fun t =>
            t.pwr = { s.pwr with
              clock := v, clockSet := true
              wakeTime := if s.pwr.wakeTime.any (· ≤ v) then none else s.pwr.wakeTime } ∧
            t.keys.places = s.keys.places.map (Option.map fun k => { k with state := stateAt v k }) ∧ s.reportsKeys t .clock)) ∧
    (s.asks (requestFrame 9 tag p) →
      (p.length ≠ 5 → refuses (.wakeAt tag p) s (requestFrame 9 tag p) .badLength []) ∧
      (p = [0, 0, 0, 0, 0] →
        replies (.wakeAt tag p) s (requestFrame 9 tag p) .ok [0, 0, 0, 0, 0] [.pwr] fun t =>
          t.pwr = { s.pwr with wakeTime := none }) ∧
      ∀ n, n < 2 ^ 32 → p = 1 :: beBytes 4 n →
        (n ≤ s.pwr.clock → refuses (.wakeAt tag p) s (requestFrame 9 tag p) .badField []) ∧
        (s.pwr.clock < n →
          replies (.wakeAt tag p) s (requestFrame 9 tag p) .ok (1 :: beBytes 4 n) [.pwr] fun t =>
            t.pwr = { s.pwr with wakeTime := some n }))

/-- READY stops the outputs, completes the fades, empties the lines and turns the Level Monitor OFF; ACTIVE starts them again (R103, R114,
R176). An accepted NIGHT discards what waits and is answered, and the end of that reply enters NIGHT (R151, R177, R178). READY and
NIGHT are refused BUSY in ACTIVE while the show is neither EMPTY nor LOADED, whatever their payload: that the state is checked before
the length is the model's reading (log entry 10), as is that the overflow list is empty at once, also where its first reply is being sent (log entry
43). -/
def Obligations.ReadyActiveAndNight : Prop :=
  ∀ (tag : Byte) (p : List Byte) (f : Frame) (s : State),
    (s.asks (requestFrame 10 tag p) →
      (s.pwr.state = .active → s.ctl.state ≠ .empty → s.ctl.state ≠ .loaded →
        refuses (.ready tag p) s (requestFrame 10 tag p) .busy []) ∧
      (s.pwr.state = .active → s.ctl.state = .empty ∨ s.ctl.state = .loaded → p = [] →
        replies (.ready tag p) s (requestFrame 10 tag p) .ok [1, s.ctl.state.code] [.pwr, .snd, .meter] fun t =>
          t.pwr = { s.pwr with state := .ready } ∧ t.snd.running = false ∧ t.snd.map = s.snd.map ∧
          t.snd.pause = { cur := s.snd.pause.target, target := s.snd.pause.target, ramp := none } ∧
          t.snd.outputs = s.snd.outputs.map (fun y => { y with
            fader := { cur := y.fader.target, target := y.fader.target, ramp := none }
            switch := { cur := 16384, target := 16384, ramp := none }, phase := .steady
            delay := y.pendingDelay.getD y.delay, pendingDelay := none, line := [], out := 0 }) ∧
          t.meter.state = .off ∧ t.meter.trigger = (if s.meter.state = .measuring then none else s.meter.trigger)) ∧
      (s.pwr.state = .ready → p = [] →
        replies (.ready tag p) s (requestFrame 10 tag p) .ok [1, s.ctl.state.code] [] fun _ => True)) ∧
    (s.asks (requestFrame 11 tag p) → p = [] →
      (s.pwr.state = .active →
        replies (.active tag p) s (requestFrame 11 tag p) .ok [0, s.ctl.state.code] [] fun _ => True) ∧
      (s.pwr.state = .ready →
        replies (.active tag p) s (requestFrame 11 tag p) .ok [0, s.ctl.state.code] [.pwr, .snd, .meter, .cue] fun t =>
          t.pwr = { s.pwr with state := .active } ∧ t.snd = { s.snd with running := true } ∧
          t.meter = { s.meter with state := .idle } ∧ t.cue.lines = s.cue.lines ∧ t.cue.pairs = s.cue.pairs ∧
          t.cue.inputs = s.cue.inputs)) ∧
    (s.asks (requestFrame 12 tag p) →
      (s.pwr.state = .active → s.ctl.state ≠ .empty → s.ctl.state ≠ .loaded →
        refuses (.night tag p) s (requestFrame 12 tag p) .busy []) ∧
      (s.pwr.state = .ready ∨ s.ctl.state = .empty ∨ s.ctl.state = .loaded → p = [] →
        leaves (.night tag p) s [.link, .pwr] fun t =>
          t.pwr = { s.pwr with transition := .night } ∧ t.link.queue = [] ∧ t.link.overflow = [] ∧
          t.link.reply = some { kind := 140, tag := tag, payload := [0, s.pwr.state.code, s.ctl.state.code] ++
            (match s.pwr.wakeTime with | some n => 1 :: beBytes 4 n | none => [0, 0, 0, 0, 0]) })) ∧
    (s.pwr.transition = .night → s.link.transmitter = some (.reply, f) →
      leaves .transmitComplete s [.link, .pwr, .cue, .notice, .meter, .snd, .ports] fun t =>
        t.pwr = { s.pwr with state := .night, transition := .none } ∧ t.notice = { s.notice with order := [] } ∧
        t.cue = { s.cue with lines := s.cue.lines.map fun l => { l with latched := l.pin } } ∧ t.meter.state = .off ∧
        t.snd.running = false ∧ t.link.receiver = .awaiting ∧ t.link.queue = [] ∧ t.link.reply = none ∧ t.link.overflow = [] ∧
        t.link.transmitter = none ∧ t.ports = { s.ports with control := s.ports.control ++ [f] })

/-- RESTART is answered, and the end of its reply takes the restart; an assertion of RESET_N takes it at once, or a night wake in
NIGHT (R179, R180). That the overflow list is empty at once, also where its first reply is being sent, is the model's reading (log entry
43). -/
def Obligations.RestartIsTakenWhole : Prop :=
  ∀ (tag : Byte) (p : List Byte) (f : Frame) (s : State),
    (s.asks (requestFrame 13 tag p) → p = [] →
      leaves (.restart tag p) s [.link, .pwr] fun t =>
        t.pwr = { s.pwr with transition := .restart } ∧ t.link.queue = s.link.queue.tail ∧ t.link.overflow = [] ∧
        t.link.reply = some { kind := 141, tag := tag, payload := [0] }) ∧
    (s.pwr.transition = .restart → s.link.transmitter = some (.reply, f) →
      ∃ t, exec .transmitComplete s = .next t ∧ s.restarted t none ∧ t.ports.control = s.ports.control ++ [f]) ∧
    (s.pwr.state ≠ .night →
      ∃ t, exec .resetLineAssert s = .next t ∧ s.restarted t none ∧ t.ports.control = s.ports.control) ∧
    (s.pwr.state = .night →
      ∃ t, exec .resetLineAssert s = .next t ∧ s.restarted t (some .reset) ∧ t.ports.control = s.ports.control)

/-- A falling edge of WAKE_N wakes the part from NIGHT and is disregarded otherwise; a power-on clears the retained domain too, takes the
line rate from the strap and sends CLEAR ALL on both subtitle outputs (R133, R179 to R181). The commands still to come, the record of
the ports, the strap and `freeCount` are kept: the model's choice (log entry 21). -/
def Obligations.WakeLineAndPowerOn : Prop :=
  ∀ s : State,
    (s.pwr.state = .night → ∃ t, exec .wakeLineFall s = .next t ∧ s.restarted t (some .line)) ∧
    (s.pwr.state ≠ .night → exec .wakeLineFall s = .next s) ∧
    leaves .powerOn s [.tl, .ctl, .keys, .intake, .pic, .snd, .meter, .subs, .cue, .acct, .caps, .notice, .pwr, .link, .ports]
      fun t =>
        { t with pending := [], freeCount := 0, ports := .reset, link := { t.link with rate := .baud921600, strap := .baud921600 } } =
          State.reset ∧
        t.link.rate = s.link.strap ∧ t.link.strap = s.link.strap ∧
        t.ports = { s.ports with overlay := s.ports.overlay ++ [.clearAll], assist := s.ports.assist ++ [.clearAll] }

/-- A booth clock second advances the clock, evaluates every key, reports the changes of state and makes the wake test: in NIGHT a wake
time reached wakes the part with cause TIME (R173, R175, R46, R47, R179). Stated for a part without a scheduled start: ScheduledStart
states the other. -/
def Obligations.BoothClockSecond : Prop :=
  ∀ s : State, s.ctl.schedule = none → s.composed = true →
    let v := if s.pwr.clock < 4294967295 then s.pwr.clock + 1 else 4294967295
    let reached := s.pwr.wakeTime.any (· ≤ v)
    let evaluated (k : KeyRecord) : KeyRecord :=
      { k with state := if s.pwr.clockSet then stateAt v k
                        else if k.state = .valid then .pending else k.state }
    s.pwr.clock ≤ 4294967295 →
    ((s.pwr.state ≠ .night ∨ reached = false) →
      leaves .boothClockSecond s [.pwr, .keys, .notice, .freeCount, .link] fun t =>
        t.pwr = { s.pwr with clock := v, wakeTime := if reached then none else s.pwr.wakeTime } ∧
        t.keys.places = s.keys.places.map (Option.map evaluated) ∧ s.reportsKeys t .clock) ∧
    (s.pwr.state = .night → reached = true →
      ∃ t, exec .boothClockSecond s = .next t ∧ t.pwr.state = .active ∧ t.pwr.woke = true ∧ t.pwr.wake = some (.time, v) ∧
        t.pwr.wakeTime = none ∧ t.pwr.clock = v ∧ t.ctl = .reset ∧ t.cue.hold = true ∧
        t.keys.places = s.keys.places.map (Option.map fun k => { evaluated k with pinned := false }))

/-! ### Show programmes (chapter 2) -/

/-- Part 0 of SHOW LOAD begins a build; a part that is not the one expected is refused with the next expected index (R23, R24). The reply
255 255 for a field of the header is the model's choice (log entry 12), and that BUSY comes before the length its reading (log entry
10). -/
def Obligations.ShowLoadHeader : Prop :=
  ∀ (tag : Byte) (p : List Byte) (s : State), s.asks (requestFrame 16 tag p) →
    (s.ctl.state ≠ .empty → s.ctl.state ≠ .loaded → refuses (.showLoad tag p) s (requestFrame 16 tag p) .busy []) ∧
    (s.ctl.state = .empty ∨ s.ctl.state = .loaded →
      (p.length < 5 → refuses (.showLoad tag p) s (requestFrame 16 tag p) .badLength []) ∧
      (∀ id count pause cues, id < 2 ^ 32 → count < 256 → pause < 65536 → (∀ n, cues = some n → n < 255) →
        p = headerPart id count pause cues →
        (count = 0 ∨ 16 < count ∨ 7200 < pause ∨ (∃ n, cues = some n ∧ 64 < n) →
          refuses (.showLoad tag p) s (requestFrame 16 tag p) .badField [255, 255]) ∧
        (1 ≤ count → count ≤ 16 → pause ≤ 7200 → (∀ n, cues = some n → n ≤ 64) →
          replies (.showLoad tag p) s (requestFrame 16 tag p) .ok [1] [.ctl] fun t =>
            t.ctl = { s.ctl with build := some { id := id, entryCount := count, pauseLimit := pause, cueCount := cues,
                                                 entries := [], cues := [], next := 1 } })) ∧
      ∀ (index : Byte) (id : Nat) (rest : List Byte), index ≠ 0 → id < 2 ^ 32 → p = index :: (beBytes 4 id ++ rest) →
        (s.ctl.build = none → refuses (.showLoad tag p) s (requestFrame 16 tag p) .badField [0]) ∧
        ∀ b, s.ctl.build = some b → id ≠ b.id ∨ index.toNat ≠ b.next →
          refuses (.showLoad tag p) s (requestFrame 16 tag p) .badField (beBytes 1 b.next))

/-- An entry part that passes the checks of R24 joins the build as it was sent; the last part of a programme without cues installs it
(R23, R25). The 4 bytes of the sum of the totals are the model's choice (log entry 39). -/
def Obligations.ShowLoadEntryIsTheEntrySent : Prop :=
  ∀ (tag : Byte) (s : State) (b : Build) (e : Entry),
    let p := entryPart b.next b.id e
    s.asks (requestFrame 16 tag p) → s.ctl.state = .empty ∨ s.ctl.state = .loaded → s.ctl.build = some b →
    1 ≤ b.next → b.next < 256 → b.id < 2 ^ 32 → b.entries.length < b.entryCount → b.cues = [] → e.loads →
    (b.entries.length + 1 < b.entryCount ∨ (∃ n, b.cueCount = some n ∧ n ≠ 0) →
      replies (.showLoad tag p) s (requestFrame 16 tag p) .ok (beBytes 1 (b.next + 1)) [.ctl] fun t =>
        t.ctl = { s.ctl with build := some { b with entries := b.entries ++ [e], next := b.next + 1 } }) ∧
    (b.entries.length + 1 = b.entryCount → b.cueCount = none ∨ b.cueCount = some 0 →
      replies (.showLoad tag p) s (requestFrame 16 tag p) .ok
        (beBytes 4 b.id ++ beBytes 1 b.entryCount ++ beBytes 4 ((b.entries ++ [e]).map Entry.total).sum) [.ctl, .cue] fun t =>
          t.ctl = { s.ctl with
            state := .loaded, build := none
            programme := some { id := b.id, pauseLimit := b.pauseLimit, entries := b.entries ++ [e] } } ∧
          (b.cueCount = none → t.cue = s.cue) ∧
          (b.cueCount = some 0 → t.cue = { s.cue with live := [], waiting := [] }))

/-- A cue part joins the build, and the one that completes it installs the programme, with its cues in number order in both cue lists. An
entry or cue part that fails a check of R24 is refused BAD_FIELD and changes nothing: first the fields of the entry before its reels,
then the first reel whose duration fails, then keys and percentage; for a cue part its count, a number that repeats or a cue out of range
or unfit for its line; a part of another length than its contents declare is refused BAD_LENGTH (R23 to R25, R138). The bytes that name
an entry's own field, its index and 255, and those for a cue, 255 255, are the model's choice (log entry 12), as are the 4 bytes of the
sum (log entry 39). -/
def Obligations.ShowLoadCuesInstallBothLists : Prop :=
  ∀ (tag : Byte) (s : State) (b : Build), s.ctl.state = .empty ∨ s.ctl.state = .loaded → s.ctl.build = some b →
    1 ≤ b.next → b.next < 256 → b.id < 2 ^ 32 →
    (b.entries.length = b.entryCount → ∀ cs : List CueRecord,
      let p := beBytes 1 b.next ++ beBytes 4 b.id ++ beBytes 1 cs.length ++ cs.flatMap CueRecord.edit
      let distinct : Prop := ((b.cues ++ cs).map CueRecord.number).Nodup
      let admitted (c : CueRecord) : Prop := c.inRange ∧ s.cue.fits c.action = true
      s.asks (requestFrame 16 tag p) →
      (distinct → (∀ c ∈ cs, admitted c ∧ c.writtenMode = c.action.lineOf.map s.cue.modeOf) →
        (cs ≠ [] → cs.length ≤ 32 → b.cueCount = some (b.cues.length + cs.length) →
          replies (.showLoad tag p) s (requestFrame 16 tag p) .ok
            (beBytes 4 b.id ++ beBytes 1 b.entryCount ++ beBytes 4 (b.entries.map Entry.total).sum) [.ctl, .cue] fun t =>
              t.ctl = { s.ctl with
                state := .loaded, build := none
                programme := some { id := b.id, pauseLimit := b.pauseLimit, entries := b.entries } } ∧
              t.cue = { s.cue with live := t.cue.live, waiting := t.cue.live } ∧ t.cue.live.Perm (b.cues ++ cs) ∧
              t.cue.live.Pairwise fun c d => c.number < d.number) ∧
        (∀ n, cs.length = 32 → b.cueCount = some n → b.cues.length + 32 < n →
          replies (.showLoad tag p) s (requestFrame 16 tag p) .ok (beBytes 1 (b.next + 1)) [.ctl] fun t =>
            t.ctl = { s.ctl with build := some { b with cues := b.cues ++ cs, next := b.next + 1 } })) ∧
      (cs.length < 256 → (∀ c ∈ cs, c.encodable) →
        cs.length ≠ min 32 (b.cueCount.getD 0 - b.cues.length) ∨ ((b.cues.map CueRecord.number).Nodup ∧ ¬distinct) ∨
          (∃ c ∈ cs, ¬admitted c) →
        refuses (.showLoad tag p) s (requestFrame 16 tag p) .badField [255, 255])) ∧
    (b.entries.length = b.entryCount → ∀ rest : List Byte,
      let p := beBytes 1 b.next ++ (beBytes 4 b.id ++ rest)
      s.asks (requestFrame 16 tag p) → rest = [] ∨ (∃ n more, rest = n :: more ∧ more.length ≠ 16 * n.toNat) →
      refuses (.showLoad tag p) s (requestFrame 16 tag p) .badLength []) ∧
    (b.entries.length < b.entryCount → ∀ rest : List Byte,
      let p := beBytes 1 b.next ++ (beBytes 4 b.id ++ rest)
      s.asks (requestFrame 16 tag p) → rest.length < 23 → refuses (.showLoad tag p) s (requestFrame 16 tag p) .badLength []) ∧
    (b.entries.length < b.entryCount → ∀ (rate : Byte) (e : Entry), e.encodable →
      let p := entryPartAt rate b.next b.id e
      let i := b.entries.length
      let fieldsPass : Prop :=
        e.editRate ∈ [24, 25, 30, 48, 50, 60] ∧ rate.toNat ≤ 1 ∧ 1 ≤ e.mainChannels ∧ e.mainChannels ≤ 16 ∧ e.assistChannels ≤ 2 ∧
        1 ≤ e.reels.length ∧ e.reels.length ≤ 12
      let durationFails (r : Reel) : Prop := r.duration = 0 ∨ 250000 < r.duration
      (∀ more, more ≠ [] → s.asks (requestFrame 16 tag (p ++ more)) →
        refuses (.showLoad tag (p ++ more)) s (requestFrame 16 tag (p ++ more)) .badLength []) ∧
      (∀ n, 5 ≤ n → n < p.length → s.asks (requestFrame 16 tag (p.take n)) →
        refuses (.showLoad tag (p.take n)) s (requestFrame 16 tag (p.take n)) .badLength []) ∧
      (s.asks (requestFrame 16 tag p) →
        (¬fieldsPass → refuses (.showLoad tag p) s (requestFrame 16 tag p) .badField (beBytes 1 i ++ [255])) ∧
        (∀ k r, fieldsPass → firstAt e.reels durationFails k r →
          refuses (.showLoad tag p) s (requestFrame 16 tag p) .badField (beBytes 1 i ++ beBytes 1 k)) ∧
        (fieldsPass → (∀ r ∈ e.reels, ¬durationFails r) →
          3 < e.keys.length ∨ ¬e.keys.Nodup ∨ (∃ q, e.percentage = some q ∧ 100 < q) →
          refuses (.showLoad tag p) s (requestFrame 16 tag p) .badField (beBytes 1 i ++ [255]))))

/-- SHOW UNLOAD empties LOADED and leaves the build and the cue lists; NOT_FOUND in EMPTY, BUSY elsewhere (R26), both whatever the payload:
that the state is checked before the length is the model's reading (log entry 10). -/
def Obligations.ShowUnloadDiscardsTheProgramme : Prop :=
  ∀ (tag : Byte) (p : List Byte) (s : State), s.asks (requestFrame 17 tag p) →
    (s.ctl.state = .loaded → p = [] →
      replies (.showUnload tag p) s (requestFrame 17 tag p) .ok [] [.ctl] fun t =>
        t.ctl = { s.ctl with state := .empty, programme := none }) ∧
    (s.ctl.state = .empty → refuses (.showUnload tag p) s (requestFrame 17 tag p) .notFound []) ∧
    (s.ctl.state ≠ .loaded → s.ctl.state ≠ .empty → refuses (.showUnload tag p) s (requestFrame 17 tag p) .busy [])

/-- SHOW ARM that passes the checks of R28 pins the programme's keys, in the order in which its entries list them, starts Intake at its
first positions, clears the reel tables and starts the arm timer (R28, R30, R54, R68, R132). -/
def Obligations.ShowArmAccepted : Prop :=
  ∀ (tag : Byte) (s : State) (p : Programme), s.asks (requestFrame 18 tag []) → s.ctl.state = .loaded →
    s.ctl.programme = some p → p.entries ≠ [] → s.pwr.state = .active → s.pwr.clockSet = true →
    (∀ e ∈ p.entries, ∀ d ∈ p.entries, e.rate = d.rate) → (∀ e ∈ p.entries, s.unlocks e) →
    (∀ e ∈ p.entries, ∀ i ∈ e.keys, s.validKey i ∧ s.allows p i) → s.hasRoom →
    replies (.showArm tag []) s (requestFrame 18 tag []) .accepted [] [.ctl, .keys, .intake, .subs] fun t =>
      t.ctl = { s.ctl with state := .arming, build := none, pins := t.ctl.pins, armTimer := some 10000 } ∧ t.ctl.pins.Nodup ∧
      (∀ i, i ∈ t.ctl.pins ↔ ∃ e ∈ p.entries, i ∈ e.keys) ∧
      t.ctl.pins.Pairwise (fun i j => (p.entries.flatMap Entry.keys).idxOf i < (p.entries.flatMap Entry.keys).idxOf j) ∧
      t.keys = { s.keys with
        places := s.keys.places.map (Option.map fun k => if k.id ∈ t.ctl.pins then { k with pinned := true } else k) } ∧
      t.intake = { s.intake with
        mode := .fetching, pq := [], sq0 := [], sq1 := [], requests := []
        pqCursor := some { entry := 0, reel := 0, unit := 0 }, sq0Cursor := some { entry := 0, reel := 0, unit := 0 }
        sq1Cursor := t.intake.sq1Cursor } ∧
      (∀ i e, firstAt p.entries (fun e => e.assistChannels ≠ 0) i e →
        t.intake.sq1Cursor = some { entry := i, reel := 0, unit := 0 }) ∧
      ((∀ e ∈ p.entries, e.assistChannels = 0) → t.intake.sq1Cursor = none) ∧
      t.subs = { main := { s.subs.main.cleared with markerEntry := 0, markerReel := 0 }
                 assist := { s.subs.assist.cleared with markerEntry := 0, markerReel := 0 } }

/-- SHOW ARM makes its seven checks in their order, answers with the status of the first that fails and the entry and key at fault, and
changes nothing (R28, R29). That the state is checked before the length is the model's reading (log entry 10), and that ALLOWANCE names
the first entry that lists the key, counted or not, its choice (log entry 12). -/
def Obligations.ShowArmRefusals : Prop :=
  ∀ (tag : Byte) (pl : List Byte) (s : State), s.asks (requestFrame 18 tag pl) →
    let gives (st : Status) (data : List Byte) : Prop := refuses (.showArm tag pl) s (requestFrame 18 tag pl) st data
    (s.ctl.state = .empty → gives .notFound []) ∧
    (s.ctl.state ≠ .empty → s.ctl.state ≠ .loaded → gives .busy []) ∧
    ∀ p : Programme, s.ctl.state = .loaded → s.ctl.programme = some p → pl = [] →
      (s.pwr.state ≠ .active → gives .notActive []) ∧
      (s.pwr.state = .active →
        (s.pwr.clockSet = false → gives .clockNotSet []) ∧
        (s.pwr.clockSet = true →
          (∀ i e d, p.entries.head? = some d → firstAt p.entries (fun e => e.rate ≠ d.rate) i e →
            gives .mixedRate (beBytes 1 i)) ∧
          ((∀ e ∈ p.entries, ∀ d ∈ p.entries, e.rate = d.rate) →
            (∀ i e, firstAt p.entries (fun e => ¬s.unlocks e) i e →
              (∀ j k, firstAt e.keys (fun k => ¬s.binds e k) j k → gives .keyMissing (beBytes 1 i ++ idBytes k)) ∧
              ((∀ k ∈ e.keys, s.binds e k) → ∀ k, e.keys.head? = some k → gives .keyMissing (beBytes 1 i ++ idBytes k))) ∧
            ((∀ e ∈ p.entries, s.unlocks e) →
              (∀ i e j k, firstAt p.entries (fun e => ∃ k ∈ e.keys, ¬s.validKey k) i e →
                firstAt e.keys (fun k => ¬s.validKey k) j k → gives .keyNotValid (beBytes 1 i ++ idBytes k)) ∧
              ((∀ e ∈ p.entries, ∀ k ∈ e.keys, s.validKey k) →
                (∀ i e j k, firstAt p.entries (fun e => ∃ k ∈ e.keys, ¬s.allows p k) i e →
                  firstAt e.keys (fun k => ¬s.allows p k) j k → gives .allowance (beBytes 1 i ++ idBytes k)) ∧
                ((∀ e ∈ p.entries, ∀ k ∈ e.keys, s.allows p k) → s.acct.log.length = 48 →
                  (∀ r ∈ s.acct.log, r.collected = false) → gives .logFull []))))))

/-- SHOW START runs an ARMED show: the record is opened, the position is that of frame 0 of entry 0, BEGIN and then the first picture, or
REPEAT, go out, and the slot start of frame 0 is served (R10, R11, R33, R76, R77, R81, R82, R88, R100, R155 to R157). A pinned key that
is not VALID refuses it, the first one in the order in which SHOW ARM pinned them (ShowArmAccepted). BUSY outside ARMED, whatever the
payload, is the model's reading (log entry 10). The offers of gaps are stated where the start clamps no delay (R95). -/
def Obligations.ShowStartRunsTheShow : Prop :=
  ∀ (tag : Byte) (pl : List Byte) (s : State), s.asks (requestFrame 19 tag pl) →
    (s.ctl.state ≠ .armed → refuses (.showStart tag pl) s (requestFrame 19 tag pl) .busy []) ∧
    (s.ctl.state = .armed → pl = [] →
      (∀ j k, firstAt s.ctl.pins (fun k => ¬s.validKey k) j k →
        refuses (.showStart tag pl) s (requestFrame 19 tag pl) .keyNotValid (idBytes k)) ∧
      ∀ p e, s.ctl.programme = some p → p.entries[0]? = some e → e.sound → (∀ k ∈ s.ctl.pins, s.validKey k) →
        replies (.showStart tag pl) s (requestFrame 19 tag pl) .ok []
          [.tl, .ctl, .intake, .pic, .snd, .meter, .subs, .cue, .acct, .caps, .notice, .ports, .freeCount] fun t =>
            t.ctl = { s.ctl with state := .running, schedule := none, event := s.ctl.reporting .started .running none } ∧
            t.tl = { mode := .advancing, rate := e.rate, entry := 0, reel := 0, frame := 0, phase := 0,
                     samplesPerFrame := e.rate.hz / e.editRate, total := e.total, countPoint := e.countPoint } ∧
            t.pic.showing = true ∧
            (∀ x rest data, s.intake.pq = x :: rest → x.pos = { entry := 0, reel := 0, unit := 0 } → x.status = .ready data →
              t.ports.picture = s.ports.picture ++ [.start e.editRate, .picture { entry := 0, reel := 0, unit := 0 } data]) ∧
            (s.intake.pq = [] → t.ports.picture = s.ports.picture ++ [.start e.editRate, .again 0 0]) ∧
            t.snd.pause = { cur := 16384, target := 16384, ramp := none } ∧ t.snd.mainChannels = e.mainChannels ∧
            t.snd.assistChannels = e.assistChannels ∧
            t.acct.counter = (if s.acct.counter = 4294967295 then 1 else s.acct.counter + 1) ∧
            (∃ r x, t.acct.log.getLast? = some r ∧ r.number = t.acct.counter ∧ r.programme = p.id ∧
              r.startClock = s.pwr.clock ∧ r.endClock = none ∧ r.outcome = none ∧ r.collected = false ∧ r.entries = [x] ∧
              x.composition = e.composition ∧ x.framesPlayed = none ∧ x.countPoint = e.countPoint ∧ x.charged = false) ∧
            (s.acct.log.length < 48 → t.acct.log.dropLast = s.acct.log) ∧
            (∀ a r b, s.acct.log = a ++ r :: b → s.acct.log.length = 48 → (∀ x ∈ a, x.collected = false) → r.collected = true →
              t.acct.log.dropLast = a ++ b) ∧
            s.slotBegun t 0 0 e [.start e.editRate] none (0, 0) ∧
            ((∀ y ∈ s.snd.outputs, ((s.snd.globalDelay + y.trim) * e.rate.hz + 500000) / 1000000 ≤ 24000) → s.offersGaps t 0 0 e) ∧
            s.signals t .show)

/-- SHOW START AT sets the schedule, and the first clock second or CLOCK SET at or past it attempts the start (R34, R174). Stated for a
clock that changes no key's state and reaches no wake time. BUSY outside ARMED, whatever the payload, is the model's reading (log entry
10). -/
def Obligations.ScheduledStart : Prop :=
  ∀ (tag : Byte) (pl : List Byte) (s : State),
    (s.asks (requestFrame 20 tag pl) →
      (s.ctl.state ≠ .armed → refuses (.showStartAt tag pl) s (requestFrame 20 tag pl) .busy []) ∧
      (s.ctl.state = .armed →
        (pl.length ≠ 4 → refuses (.showStartAt tag pl) s (requestFrame 20 tag pl) .badLength []) ∧
        ∀ n, n < 2 ^ 32 → pl = beBytes 4 n →
          (n ≤ s.pwr.clock → refuses (.showStartAt tag pl) s (requestFrame 20 tag pl) .badField []) ∧
          (s.pwr.clock < n →
            replies (.showStartAt tag pl) s (requestFrame 20 tag pl) .ok [] [.ctl] fun t =>
              t.ctl = { s.ctl with schedule := some n }))) ∧
    ∀ n p e, s.ctl.state = .armed → s.ctl.schedule = some n → s.ctl.programme = some p → p.entries[0]? = some e →
      let raised (t : State) : Prop := s.composed = true → s.signals t .show
      let started (t : State) : Prop :=
        t.tl = { mode := .advancing, rate := e.rate, entry := 0, reel := 0, frame := 0, phase := 0,
                 samplesPerFrame := e.rate.hz / e.editRate, total := e.total, countPoint := e.countPoint } ∧
        t.ctl = { s.ctl with state := .running, schedule := none, event := s.ctl.reporting .started .running none } ∧ raised t
      let failed (t : State) : Prop :=
        t.tl = s.tl ∧
        t.ctl = { s.ctl with schedule := none, event := s.ctl.reporting .startFailed .armed none } ∧ raised t
      (s.pwr.clockSet = true → s.pwr.wakeTime = none → s.pwr.clock < 4294967295 →
        (∀ k, some k ∈ s.keys.places → stateAt (s.pwr.clock + 1) k = k.state) →
        (s.pwr.clock + 1 < n → ∃ t, exec .boothClockSecond s = .next t ∧ t.ctl = s.ctl ∧ t.tl = s.tl) ∧
        (n ≤ s.pwr.clock + 1 → (∀ k ∈ s.ctl.pins, s.validKey k) →
          ∃ t, exec .boothClockSecond s = .next t ∧ t.pwr.clock = s.pwr.clock + 1 ∧ started t) ∧
        (n ≤ s.pwr.clock + 1 → (∃ k ∈ s.ctl.pins, ¬s.validKey k) →
          ∃ t, exec .boothClockSecond s = .next t ∧ t.pwr.clock = s.pwr.clock + 1 ∧ failed t)) ∧
      ∀ v, v < 2 ^ 32 → pl = beBytes 4 v → s.asks (requestFrame 8 tag pl) → s.pwr.wakeTime = none →
        (∀ k, some k ∈ s.keys.places → stateAt v k = k.state) →
        ∃ t, exec (.clockSet tag pl) s = .next t ∧
          s.answered t (requestFrame 8 tag pl) .ok (beBytes 4 s.pwr.clock ++ beBytes 4 v) ∧
          t.pwr = { s.pwr with clock := v, clockSet := true } ∧
          (v < n → t.ctl = s.ctl ∧ t.tl = s.tl) ∧ (n ≤ v → (∀ k ∈ s.ctl.pins, s.validKey k) → started t) ∧
          (n ≤ v → (∃ k ∈ s.ctl.pins, ¬s.validKey k) → failed t)

/-- PAUSE freezes a RUNNING show and fades the pause gain to 0 over 20 ms; RESUME lets a PAUSED one go on, from the gain's current value up
to unity (R35, R36, R93, R118). STOP returns an arming or armed show to LOADED and takes a running or paused one into STOPPING with
outcome STOPPED (R32, R37, R94, R99, R132). BUSY in the other show states, whatever the payload, is the model's reading (log entry
10). -/
def Obligations.PauseResumeAndStop : Prop :=
  ∀ (tag : Byte) (pl : List Byte) (s : State),
    (s.asks (requestFrame 21 tag pl) →
      (s.ctl.state ≠ .running → refuses (.pause tag pl) s (requestFrame 21 tag pl) .busy []) ∧
      (s.ctl.state = .running → pl = [] → ∀ p, s.ctl.programme = some p →
        replies (.pause tag pl) s (requestFrame 21 tag pl) .ok [] [.tl, .ctl, .snd, .meter, .notice] fun t =>
          t.ctl = { s.ctl with
            state := .paused, pausedMs := 0, event := s.ctl.reporting .paused .paused none
            pauseTimer := if p.pauseLimit = 0 then none else some (p.pauseLimit * 1000) } ∧
          t.tl = { s.tl with mode := .frozen } ∧ t.snd = { s.snd with pause := s.snd.pause.begun 0 (s.tl.rate.hz / 50) } ∧
          t.meter = { s.meter with quiet := s.meter.quiet.map fun _ => 0 } ∧ s.signals t .show)) ∧
    (s.asks (requestFrame 22 tag pl) →
      (s.ctl.state ≠ .paused → refuses (.resume tag pl) s (requestFrame 22 tag pl) .busy []) ∧
      (s.ctl.state = .paused → pl = [] →
        replies (.resume tag pl) s (requestFrame 22 tag pl) .ok [] [.tl, .ctl, .snd, .notice] fun t =>
          t.ctl = { s.ctl with state := .running, pauseTimer := none, event := s.ctl.reporting .resumed .running none } ∧
          t.tl = { s.tl with mode := .advancing } ∧
          t.snd = { s.snd with pause := s.snd.pause.begun 16384 (s.tl.rate.hz / 50) } ∧ s.signals t .show)) ∧
    (s.asks (requestFrame 23 tag pl) →
      (s.ctl.state = .empty ∨ s.ctl.state = .loaded ∨ s.ctl.state = .stopping →
        refuses (.stop tag pl) s (requestFrame 23 tag pl) .busy []) ∧
      (s.ctl.state = .arming ∨ s.ctl.state = .armed → pl = [] →
        replies (.stop tag pl) s (requestFrame 23 tag pl) .ok [] [.ctl, .keys, .intake, .subs, .notice] fun t =>
          s.disarmsWith t .disarmed) ∧
      (s.ctl.state = .running ∨ s.ctl.state = .paused → pl = [] →
        replies (.stop tag pl) s (requestFrame 23 tag pl) .ok []
          [.tl, .ctl, .intake, .pic, .snd, .meter, .subs, .notice, .ports] fun t => s.stopsWith t .stopped 20))

/-- HALT applies the emergency pattern in every show state; it stops a running or paused show as INTERRUPTED with a 10 ms fade, and in
STOPPING it begins a new 10 ms fade and keeps only the outcome COMPLETE (R38, R150). A line of an enabled pair counts as active when its
pin or its configured level is: the model's reading (log entry 19). -/
def Obligations.HaltInEveryShowState : Prop :=
  ∀ (tag : Byte) (pl : List Byte) (s : State), s.asks (requestFrame 24 tag pl) →
    (pl ≠ [] → refuses (.halt tag pl) s (requestFrame 24 tag pl) .badLength []) ∧
    (pl = [] →
      (s.ctl.state = .running ∨ s.ctl.state = .paused →
        replies (.halt tag pl) s (requestFrame 24 tag pl) .ok []
          [.tl, .ctl, .intake, .pic, .snd, .meter, .subs, .cue, .notice, .ports] fun t =>
            s.stopsWith t .interrupted 10 ∧ s.cue.struck t.cue) ∧
      (s.ctl.state = .stopping →
        replies (.halt tag pl) s (requestFrame 24 tag pl) .ok [] [.ctl, .snd, .cue] fun t =>
          t.ctl = { s.ctl with outcome := some (if s.ctl.outcome = some .complete then .complete else .interrupted) } ∧
          t.snd = { s.snd with pause := s.snd.pause.begun 0 (s.tl.rate.hz / 100) } ∧ s.cue.struck t.cue) ∧
      (s.ctl.state = .empty ∨ s.ctl.state = .loaded ∨ s.ctl.state = .arming ∨ s.ctl.state = .armed →
        replies (.halt tag pl) s (requestFrame 24 tag pl) .ok [] [.cue] fun t => s.cue.struck t.cue))

/-- The completion of the stop fade closes the record with the outcome, F and the clock, raises LOG with its details when the log then
holds 48 records and none collected, unpins the keys, copies the cue list and returns the show to LOADED (R40, R159, R161); before the
fade's last step nothing is done. -/
def Obligations.StopFadeCompletionEndsTheShowing : Prop :=
  ∀ (s : State) (g : Ramp), s.ctl.state = .stopping → s.snd.pause.ramp = some g → s.composed = true →
    (g.step < g.length → leaves .stopFadeComplete s [.link] fun _ => True) ∧
    (1 ≤ g.step → g.length ≤ g.step →
      leaves .stopFadeComplete s [.tl, .ctl, .keys, .snd, .cue, .acct, .notice, .link] fun t =>
        t.ctl = { s.ctl with state := .loaded, outcome := none, pins := [],
                             event := s.ctl.reporting .ended .loaded s.ctl.outcome } ∧
        t.tl = { s.tl with mode := .still } ∧ t.snd = { s.snd with pause := { s.snd.pause with ramp := none } } ∧
        t.keys = { s.keys with places := s.keys.unpinned s.ctl.pins } ∧ t.cue = { s.cue with live := s.cue.waiting } ∧
        (∀ before r es x, s.acct.log = before ++ [r] → r.outcome = none → r.entries = es ++ [x] →
          t.acct.counter = s.acct.counter ∧ t.acct.count = s.acct.count ∧
          t.acct.log = before ++ [{ r with endClock := some s.pwr.clock, outcome := s.ctl.outcome,
                                           entries := es ++ [{ x with framesPlayed := some s.tl.frame }] }] ∧
          let full : Prop := before.length = 47 ∧ ∀ y ∈ before ++ [r], y.collected = false
          (full → s.signals t .log ∧ t.acct.logDetails =
            some { records := 48, uncollected := 48, oldest := ((before ++ [r]).head?.map ShowingRecord.number).getD 0
                   newest := r.number }) ∧
          (¬full → t.acct.logDetails = s.acct.logDetails ∧ s.silent t .log)) ∧
        s.signals t .show)

/-- The arm timer's expiry in ARMING disarms the show; the pause limit's expiry in PAUSED ends it as ABANDONED with a 20 ms fade. Before
their timers have run out neither does anything (R32, R36). -/
def Obligations.ArmTimeoutAndPauseLimit : Prop :=
  ∀ s : State, s.composed = true →
    (s.ctl.state = .arming → s.ctl.armTimer = some 0 →
      leaves .armTimeout s [.ctl, .keys, .intake, .subs, .notice, .link] fun t => s.disarmsWith t .armTimeout) ∧
    (s.ctl.state ≠ .arming ∨ s.ctl.armTimer ≠ some 0 → leaves .armTimeout s [.link] fun _ => True) ∧
    (s.ctl.state = .paused → s.ctl.pauseTimer = some 0 →
      leaves .pauseLimitExpiry s [.tl, .ctl, .intake, .pic, .snd, .meter, .subs, .notice, .ports, .link] fun t =>
        s.stopsWith t .abandoned 20) ∧
    (s.ctl.state ≠ .paused ∨ s.ctl.pauseTimer ≠ some 0 → leaves .pauseLimitExpiry s [.link] fun _ => True)

/-! ### The Key Table (chapter 3) -/

/-- KEY PUT makes its checks in their order and stores the record as it was sent in the lowest free place, in the state of the clock
(R48, R49). BAD_FIELD for an absent allowance with a value other than 0 is the model's reading (log entry 13). -/
def Obligations.KeyPutStoresTheRecordSent : Prop :=
  ∀ (tag : Byte) (p : List Byte) (s : State), s.asks (requestFrame 32 tag p) →
    (p.length ≠ 76 → refuses (.keyPut tag p) s (requestFrame 32 tag p) .badLength []) ∧
    (p.length = 76 →
      field p 32 1 = 0 ∨ 7 < field p 32 1 ∨ field p 69 4 < field p 65 4 ∨
        ¬((field p 73 1 = 0 ∧ field p 74 2 = 0) ∨ (field p 73 1 = 1 ∧ field p 74 2 ≠ 0)) →
      refuses (.keyPut tag p) s (requestFrame 32 tag p) .badField []) ∧
    ∀ k : KeyRecord, k.admissible → p = keyPutPayload k →
      (∀ i j, firstAt s.keys.places (fun x => ∃ r, x = some r ∧ r.id = k.id) i j →
        refuses (.keyPut tag p) s (requestFrame 32 tag p) .duplicate (beBytes 1 i)) ∧
      ((∀ r, some r ∈ s.keys.places → r.id ≠ k.id) →
        ((∀ x ∈ s.keys.places, x ≠ none) → refuses (.keyPut tag p) s (requestFrame 32 tag p) .tableFull []) ∧
        ∀ i x, firstAt s.keys.places (fun x => x = none) i x →
          let st : KeyState := if s.pwr.clockSet = false ∨ s.pwr.clock < k.windowStart then .pending
            else if s.pwr.clock ≤ k.windowEnd then .valid else .expired
          replies (.keyPut tag p) s (requestFrame 32 tag p) .ok (beBytes 1 i ++ [st.code]) [.keys] fun t =>
            t.keys.details = s.keys.details ∧ t.keys.places.length = s.keys.places.length ∧
            t.keys.places[i]? = some (some { k with charged := 0, state := st, pinned := false }) ∧
            ∀ j, j ≠ i → t.keys.places[j]? = s.keys.places[j]?)

/-- KEY REMOVE frees the place of a key that is not pinned and takes its index out of the KEYS changed set; NOT_FOUND and IN_USE change
nothing (R50). -/
def Obligations.KeyRemoveFreesThePlace : Prop :=
  ∀ (tag : Byte) (id : Id) (s : State), s.asks (requestFrame 33 tag (idBytes id)) →
    let p := idBytes id
    ((∀ k, some k ∈ s.keys.places → k.id ≠ id) → refuses (.keyRemove tag p) s (requestFrame 33 tag p) .notFound []) ∧
    ∀ i k, firstAt s.keys.places (fun x => ∃ r, x = some r ∧ r.id = id) i (some k) →
      (k.pinned = true → refuses (.keyRemove tag p) s (requestFrame 33 tag p) .inUse (beBytes 1 i)) ∧
      (k.pinned = false →
        replies (.keyRemove tag p) s (requestFrame 33 tag p) .ok (beBytes 1 i) [.keys] fun t =>
          t.keys.places.length = s.keys.places.length ∧ t.keys.places[i]? = some none ∧
          (∀ j, j ≠ i → t.keys.places[j]? = s.keys.places[j]?) ∧
          t.keys.details = { s.keys.details with changed := t.keys.details.changed } ∧
          ∀ j, t.keys.details.changed.getLsbD j = (s.keys.details.changed.getLsbD j && decide (j ≠ i)))

/-- KEY REVOKE makes a PENDING or VALID key REVOKED, keeps a final state, and answers with both states; and a key in a final state stays
in it through every command but KEY REMOVE and a power-on, so no clock value brings a revoked key back (R45, R51, R58). -/
def Obligations.KeyRevokeIsFinal : Prop :=
  (∀ (tag : Byte) (id : Id) (s : State), s.asks (requestFrame 34 tag (idBytes id)) →
    let p := idBytes id
    ((∀ k, some k ∈ s.keys.places → k.id ≠ id) → refuses (.keyRevoke tag p) s (requestFrame 34 tag p) .notFound []) ∧
    ∀ i k, firstAt s.keys.places (fun x => ∃ r, x = some r ∧ r.id = id) i (some k) →
      let after : KeyState := if k.state = .pending ∨ k.state = .valid then .revoked else k.state
      replies (.keyRevoke tag p) s (requestFrame 34 tag p) .ok (beBytes 1 i ++ [k.state.code, after.code]) [.keys] fun t =>
        t.keys.details = s.keys.details ∧ t.keys.places.length = s.keys.places.length ∧
        t.keys.places[i]? = some (some { k with state := after }) ∧ ∀ j, j ≠ i → t.keys.places[j]? = s.keys.places[j]?) ∧
  ∀ (c : Instr) (s t : State) (i : Nat) (k : KeyRecord), (∀ tag p, c ≠ .keyRemove tag p) → c ≠ .powerOn → exec c s = .next t →
    s.keys.places[i]? = some (some k) → k.state = .revoked ∨ k.state = .spent ∨ k.state = .expired →
    ∃ l, t.keys.places[i]? = some (some l) ∧ l.id = k.id ∧ l.state = k.state

/-- KEY GET answers with the non-secret fields of the record and its table index, NOT_FOUND for an unknown id, and changes nothing
(R52). -/
def Obligations.KeyGetReportsTheRecord : Prop :=
  ∀ (tag : Byte) (id : Id) (s : State), s.asks (requestFrame 35 tag (idBytes id)) →
    let p := idBytes id
    ((∀ k, some k ∈ s.keys.places → k.id ≠ id) → refuses (.keyGet tag p) s (requestFrame 35 tag p) .notFound []) ∧
    ∀ i k, firstAt s.keys.places (fun x => ∃ r, x = some r ∧ r.id = id) i (some k) →
      replies (.keyGet tag p) s (requestFrame 35 tag p) .ok
        (beBytes 1 i ++ idBytes k.id ++ idBytes k.composition ++
          [BitVec.ofNat 8 (k.scopePicture.toNat + 2 * k.scopeSound.toNat + 4 * k.scopeSubtitle.toNat)] ++
          beBytes 4 k.windowStart ++ beBytes 4 k.windowEnd ++
          (match k.allowance with | some n => 1 :: beBytes 2 n | none => [0, 0, 0]) ++ beBytes 2 k.charged ++
          (match k.allowance with | some n => 1 :: beBytes 2 (n - k.charged) | none => [0, 0, 0]) ++
          [k.state.code, flagByte k.pinned]) [] fun _ => True

/-- KEY LIST answers with a page of up to 16 records from an index upward, CUE LIST with a page of up to 32 cues from a number upward, LOG
READ with a page of up to 8 entry records of the record it names, the entry in play with the Timeline's F; none of them changes anything
(R53, R138, R153, R162). A presence byte before the CUE details, and the bytes of a cue record, are the model's choice (log entry 11);
BAD_FIELD for OLDEST with a number other than 0 is its reading (log entry 13), and that a number held twice names the older record its
choice (log entry 42). -/
def Obligations.PagedReadsChangeNothing : Prop :=
  (∀ (tag : Byte) (s : State),
      (∀ n : Byte, s.asks (requestFrame 36 tag [n]) →
        (32 ≤ n.toNat → refuses (.keyList tag [n]) s (requestFrame 36 tag [n]) .badField []) ∧
        (n.toNat < 32 → s.keys.places.length = 32 →
          let rest := (List.range 32).filterMap fun j =>
            if n.toNat ≤ j then ((s.keys.places[j]?).join).map fun k => (j, k) else none
          let page := rest.take 16
          replies (.keyList tag [n]) s (requestFrame 36 tag [n]) .ok
            (beBytes 1 (s.keys.places.countP Option.isSome) ++ beBytes 4 s.keys.details.changed.toNat ++
              beBytes 1 s.keys.details.count ++ beBytes 1 page.length ++ page.flatMap (fun x => x.2.bytes x.1) ++
              (if rest.length ≤ 16 then [255] else beBytes 1 ((page.getLast?.map Prod.fst).getD 0 + 1))) [] fun _ => True)) ∧
      ∀ which first : Byte, s.asks (requestFrame 27 tag [which, first]) →
        (1 < which.toNat ∨ 63 < first.toNat →
          refuses (.cueList tag [which, first]) s (requestFrame 27 tag [which, first]) .badField []) ∧
        (which.toNat ≤ 1 → first.toNat ≤ 63 →
          let l := if which = 0 then s.cue.live else s.cue.waiting
          let rest := l.filter fun c => first.toNat ≤ c.number
          replies (.cueList tag [which, first]) s (requestFrame 27 tag [which, first]) .ok
            (beBytes 1 l.length ++ beBytes 1 s.cue.skipCount ++
              (match s.cue.skipLast with | some n => 1 :: beBytes 1 n | none => [0, 0]) ++
              (match s.cue.details with
               | some d => 1 :: (beBytes 1 d.number ++ beBytes 1 d.entry ++ beBytes 3 d.frame ++ beBytes 1 d.count ++ [0, 0])
               | none => [0, 0, 0, 0, 0, 0, 0, 0, 0]) ++
              beBytes 1 (min 32 rest.length) ++ (rest.take 32).flatMap CueRecord.bytes ++
              (match rest[32]? with | some c => beBytes 1 c.number | none => [255])) [] fun _ => True)) ∧
  ∀ (tag form first : Byte) (number : Nat) (s : State), number < 2 ^ 32 →
      let p := form :: (beBytes 4 number ++ [first])
      s.asks (requestFrame 72 tag p) →
      (1 < form.toNat ∨ (form = 1 ∧ number ≠ 0) → refuses (.logRead tag p) s (requestFrame 72 tag p) .badField []) ∧
      let wanted (r : ShowingRecord) : Prop := if form = 0 then r.number = number else r.collected = false
      (form = 0 ∨ (form = 1 ∧ number = 0) →
        ((∀ r ∈ s.acct.log, ¬wanted r) → refuses (.logRead tag p) s (requestFrame 72 tag p) .notFound []) ∧
        ∀ i r, firstAt s.acct.log wanted i r →
          (r.entries.length ≤ first.toNat → refuses (.logRead tag p) s (requestFrame 72 tag p) .badField []) ∧
          (first.toNat < r.entries.length →
            replies (.logRead tag p) s (requestFrame 72 tag p) .ok
              (beBytes 4 r.number ++ beBytes 4 r.programme ++ beBytes 4 r.startClock ++
                (match r.endClock with | some n => 1 :: beBytes 4 n | none => [0, 0, 0, 0, 0]) ++
                [recordOutcomeCode r.outcome, flagByte r.collected] ++ beBytes 1 r.entries.length ++
                (if first.toNat + 8 < r.entries.length then beBytes 1 (first.toNat + 8) else [255]) ++
                (List.range 8).flatMap fun k =>
                  match r.entries[first.toNat + k]? with
                  | none => []
                  | some e =>
                    idBytes e.composition ++ [flagByte e.framesPlayed.isNone] ++ beBytes 4 (e.framesPlayed.getD s.tl.frame) ++
                      beBytes 4 (e.countPoint.getD 0) ++ [flagByte e.charged] ++ beBytes 2 e.pictureDefects ++
                      beBytes 2 e.soundDefects ++ beBytes 2 e.subtitleDefects ++ beBytes 3 e.silent.toNat) [] fun _ => True))

/-! ### The showing log (chapter 9) -/

/-- LOG COLLECT marks the closed records at or before the number it names, and never the open one; LOG STATUS counts the log and changes
nothing (R163, R164). The COUNT details as a presence byte and 8 summary bytes are the model's choice (log entry 11), as is the one byte
that says whether a record is open and whether its number is there (log entry 38), and that of two records of one number the older counts
(log entry 42). -/
def Obligations.LogCollectAndLogStatus : Prop :=
  ∀ (tag : Byte) (s : State),
    (∀ n, n < 2 ^ 32 → s.asks (requestFrame 73 tag (beBytes 4 n)) →
      let p := beBytes 4 n
      let mark (r : ShowingRecord) : ShowingRecord := if r.outcome.isSome then { r with collected := true } else r
      let fresh (r : ShowingRecord) : Bool := r.outcome.isSome && !r.collected
      (∀ a q b, s.acct.log = a ++ q :: b → q.number = n → (∀ r ∈ a, r.number ≠ n) →
        replies (.logCollect tag p) s (requestFrame 73 tag p) .ok
          (beBytes 1 ((a ++ [q]).countP fresh) ++
            beBytes 1 ((a ++ [q]).countP fresh + s.acct.log.countP ShowingRecord.collected)) [.acct] fun t =>
            t.acct = { s.acct with log := (a ++ [q]).map mark ++ b }) ∧
      ((∀ r ∈ s.acct.log, r.number ≠ n) →
        replies (.logCollect tag p) s (requestFrame 73 tag p) .ok
          (beBytes 1 (s.acct.log.countP fun r => fresh r && decide (r.number ≤ n)) ++
            beBytes 1 ((s.acct.log.countP fun r => fresh r && decide (r.number ≤ n)) +
              s.acct.log.countP ShowingRecord.collected)) [.acct] fun t =>
            t.acct = { s.acct with log := s.acct.log.map fun r => if r.number ≤ n then mark r else r })) ∧
    (s.asks (requestFrame 74 tag []) →
      let present (x : Option Nat) : List Byte := match x with | some n => 1 :: beBytes 4 n | none => [0, 0, 0, 0, 0]
      let log := s.acct.log
      replies (.logStatus tag []) s (requestFrame 74 tag []) .ok
        (beBytes 1 log.length ++ beBytes 1 (48 - log.length) ++ beBytes 1 (log.countP fun r => r.outcome.isSome && !r.collected) ++
          beBytes 1 (log.countP ShowingRecord.collected) ++
          present (log.getLast?.bind fun r => if r.outcome = none then some r.number else none) ++
          present (log.head?.map ShowingRecord.number) ++ present (log.getLast?.map ShowingRecord.number) ++
          beBytes 4 s.acct.counter ++
          (match s.acct.count with
           | some d => 1 :: (beBytes 4 d.number ++ beBytes 1 d.entry ++ beBytes 1 d.entriesCharged ++ beBytes 1 d.keysCharged ++
               beBytes 1 d.count)
           | none => [0, 0, 0, 0, 0, 0, 0, 0, 0])) [] fun _ => True)

/-! ### Cue records (section 8.2) -/

/-- CUE EDIT WRITE stores the record as it was sent with its written mode, in place of one of the same number; DELETE removes a number.
In RUNNING, PAUSED and STOPPING only the pending list is written (R41, R138). -/
def Obligations.CueEditsReachTheLists : Prop :=
  ∀ (tag : Byte) (s : State),
    let inShow : Prop := s.ctl.state = .running ∨ s.ctl.state = .paused ∨ s.ctl.state = .stopping
    let sorted (l : List CueRecord) : Prop := l.Pairwise fun a b => a.number < b.number
    (∀ c : CueRecord, c.inRange →
      let p := 1 :: c.edit
      s.asks (requestFrame 26 tag p) →
      (s.cue.fits c.action = false → refuses (.cueEditWrite tag p) s (requestFrame 26 tag p) .badField []) ∧
      (s.cue.fits c.action = true →
        replies (.cueEditWrite tag p) s (requestFrame 26 tag p) .ok [] [.cue] fun t =>
          let stored (l m : List CueRecord) : Prop :=
            sorted l → sorted m ∧ ∀ x, x ∈ m ↔
              x = { c with writtenMode := c.action.lineOf.map s.cue.modeOf } ∨ (x ∈ l ∧ x.number ≠ c.number)
          t.cue = { s.cue with live := t.cue.live, waiting := t.cue.waiting } ∧ stored s.cue.waiting t.cue.waiting ∧
          (inShow → t.cue.live = s.cue.live) ∧ (¬inShow → stored s.cue.live t.cue.live))) ∧
    (∀ p : List Byte, s.asks (requestFrame 26 tag (1 :: p)) → p.length ≠ 16 →
      refuses (.cueEditWrite tag (1 :: p)) s (requestFrame 26 tag (1 :: p)) .badLength []) ∧
    ∀ n : Byte, s.asks (requestFrame 26 tag [2, n]) →
      let p : List Byte := [2, n]
      (63 < n.toNat → refuses (.cueEditDelete tag p) s (requestFrame 26 tag p) .badField []) ∧
      (n.toNat ≤ 63 →
        let absent : Prop := (inShow → ∀ c ∈ s.cue.waiting, c.number ≠ n.toNat) ∧ (¬inShow → ∀ c ∈ s.cue.live, c.number ≠ n.toNat)
        let rest (l : List CueRecord) : List CueRecord := l.filter fun c => c.number ≠ n.toNat
        (absent → refuses (.cueEditDelete tag p) s (requestFrame 26 tag p) .notFound []) ∧
        (¬absent → replies (.cueEditDelete tag p) s (requestFrame 26 tag p) .ok [] [.cue] fun t =>
          (inShow → t.cue = { s.cue with waiting := rest s.cue.waiting }) ∧
          (¬inShow → t.cue = { s.cue with live := rest s.cue.live, waiting := rest s.cue.waiting })))

/-! ### The Sound Engine (chapter 5) -/

/-- MAP SET makes its checks in their order; an accepted map is pending in RUNNING and PAUSED, and in force at once elsewhere (R87). The first
repeated pair found is the one whose second route has the least index, the model's choice where several repeat (log entry 32); a route at
fault is named by its index (log entry 12). -/
def Obligations.MapSetReplacesTheMap : Prop :=
  ∀ (tag : Byte) (s : State),
    (∀ (n : Byte) (p : List Byte), s.asks (requestFrame 40 tag (n :: p)) → p.length ≠ 4 * n.toNat →
      refuses (.mapSet tag (n :: p)) s (requestFrame 40 tag (n :: p)) .badLength []) ∧
    ∀ rs : List Route, rs.length < 256 → (∀ r ∈ rs, r.source < 256 ∧ r.output < 256 ∧ r.gain < 65536) →
      let p := beBytes 1 rs.length ++ rs.flatMap fun r => beBytes 1 r.source ++ beBytes 1 r.output ++ beBytes 2 r.gain
      let out (r : Route) : Prop := 17 < r.source ∨ 17 < r.output
      let again (i : Nat) : Prop := ∃ j r q, j < i ∧ rs[i]? = some r ∧ rs[j]? = some q ∧ r.source = q.source ∧ r.output = q.output
      s.asks (requestFrame 40 tag p) →
      (48 < rs.length → refuses (.mapSet tag p) s (requestFrame 40 tag p) .badField []) ∧
      (rs.length ≤ 48 →
        (∀ i r, firstAt rs out i r → refuses (.mapSet tag p) s (requestFrame 40 tag p) .badField (beBytes 1 i)) ∧
        ((∀ r ∈ rs, ¬out r) →
          (∀ i, again i → (∀ j, j < i → ¬again j) →
            refuses (.mapSet tag p) s (requestFrame 40 tag p) .badField (beBytes 1 i)) ∧
          ((∀ i, ¬again i) →
            replies (.mapSet tag p) s (requestFrame 40 tag p) .ok [] [.snd] fun t =>
              (s.ctl.state = .running ∨ s.ctl.state = .paused → t.snd = { s.snd with pendingMap := some rs }) ∧
              (s.ctl.state ≠ .running → s.ctl.state ≠ .paused → t.snd = { s.snd with map := rs, pendingMap := none }))))

/-- FADE begins a fade of each host fader of its set and of no other; a fade steps by the formula of R92 and is at its target from step N
on; its end is taken when its last step has been (R91, R92). NOT_ACTIVE in READY also for an empty set is the model's reading (log entry
10). -/
def Obligations.FadesFollowTheFormula : Prop :=
  (∀ (tag : Byte) (set : BitVec 18) (target ms : Nat) (s : State), target < 65536 → ms < 65536 →
    let p := beBytes 3 set.toNat ++ beBytes 2 target ++ beBytes 2 ms
    s.asks (requestFrame 41 tag p) →
    (s.pwr.state = .ready → refuses (.fade tag p) s (requestFrame 41 tag p) .notActive []) ∧
    (s.pwr.state = .active → set = 0 → refuses (.fade tag p) s (requestFrame 41 tag p) .badField []) ∧
    (s.pwr.state = .active → set ≠ 0 →
      replies (.fade tag p) s (requestFrame 41 tag p) (if 60000 < ms then .clamped else .ok) [] [.snd] fun t =>
        t.snd = { s.snd with outputs := t.snd.outputs } ∧ t.snd.outputs.length = s.snd.outputs.length ∧
        ∀ o y, s.snd.outputs[o]? = some y → t.snd.outputs[o]? = some
          (if set.getLsbD o then { y with fader := y.fader.begun target (min ms 60000 * s.tl.rate.hz / 1000) } else y))) ∧
  (∀ (g : Gain) (target n k : Nat), 1 ≤ k →
    let after := (Nat.repeat Gain.step k (g.begun target n)).cur
    (n ≤ k → after = target) ∧
    (k < n → (after : Int) = (g.cur : Int) + (((target : Int) - (g.cur : Int)) * (k : Int)).tdiv (n : Int))) ∧
  ∀ s : State,
    (∀ (o : Fin 18) (y : Output) (r : Ramp), s.snd.outputs[o.val]? = some y → y.fader.ramp = some r →
      (1 ≤ r.step → r.length ≤ r.step →
        leaves (.gainFadeEnd (.host o)) s [.snd] fun t =>
          t.snd = { s.snd with outputs := s.snd.outputs.set o.val { y with fader := { y.fader with ramp := none } } }) ∧
      (r.step < r.length → exec (.gainFadeEnd (.host o)) s = .next s)) ∧
    ∀ r : Ramp, s.snd.pause.ramp = some r →
      (1 ≤ r.step → r.length ≤ r.step →
        leaves (.gainFadeEnd .pause) s [.snd] fun t => t.snd = { s.snd with pause := { s.snd.pause with ramp := none } }) ∧
      (r.step < r.length → exec (.gainFadeEnd .pause) s = .next s)

/-- DELAY SET converts global delay and trims to samples with the bound of 24,000 and lets each output take its count, by the phases of
its switch gain in RUNNING and PAUSED (R96, R98, R99); the ends of the ramps make DOWN WAITING and UP STEADY. The byte that names a field
at fault, 255 for the global delay and the output for a trim, is the model's choice (log entry 12), and that the global delay is checked
first its reading (log entry 10); that the 18 delays of the reply carry no count byte is its layout (log entry 11). -/
def Obligations.DelaySetAndSwitchPhases : Prop :=
  (∀ (tag : Byte) (global : Nat) (trims : List Nat) (s : State), global < 2 ^ 32 → trims.length = 18 → (∀ t ∈ trims, t < 65536) →
    s.snd.outputs.length = 18 →
    let p := beBytes 4 global ++ trims.flatMap (beBytes 2)
    let raw (o : Nat) : Nat := ((global + (trims[o]?).getD 0) * s.tl.rate.hz + 500000) / 1000000
    let ramp := s.tl.rate.hz / 200
    s.asks (requestFrame 42 tag p) →
    (250000 < global → refuses (.delaySet tag p) s (requestFrame 42 tag p) .badField [255]) ∧
    (∀ o t, global ≤ 250000 → firstAt trims (fun t => 20000 < t) o t →
      refuses (.delaySet tag p) s (requestFrame 42 tag p) .badField (beBytes 1 o)) ∧
    (global ≤ 250000 → (∀ t ∈ trims, t ≤ 20000) →
      replies (.delaySet tag p) s (requestFrame 42 tag p) (if (List.range 18).any fun o => 24000 < raw o then .clamped else .ok)
        (beBytes 3 ((List.range 18).map fun o => if 24000 < raw o then 2 ^ o else 0).sum ++
          (List.range 18).flatMap fun o => beBytes 2 (min (raw o) 24000)) [.snd, .caps, .notice] fun t =>
        t.snd = { s.snd with globalDelay := global, outputs := t.snd.outputs } ∧
        ((∀ o, o < 18 → raw o ≤ 24000) → t.caps = s.caps) ∧
        (∀ o, s.caps.sound = none → firstAt (List.range 18) (fun o => 24000 < raw o) o o →
          t.caps = { s.caps with
            sound := some { kind := .delayClamped, cause := .delaySet, place := s.place, clock := s.pwr.clock,
                            detail := beBytes 1 o ++ beBytes 2 (raw o), repeated := false } }) ∧
        ∀ o y, s.snd.outputs[o]? = some y →
          let n := min (raw o) 24000
          let z : Output := { y with trim := (trims[o]?).getD 0 }
          let inPlay : Bool := s.ctl.state = .running || s.ctl.state = .paused
          t.snd.outputs[o]? = some (
            if inPlay = false then { z with delay := n }
            else if y.phase = .down ∨ y.phase = .waiting then
              if n = y.delay then { z with phase := .up, pendingDelay := none, switch := y.switch.begun 16384 ramp }
              else { z with pendingDelay := some n }
            else if n = y.delay then z
            else { z with phase := .down, pendingDelay := some n, switch := y.switch.begun 0 ramp }))) ∧
  ∀ (s : State) (o : Fin 18) (y : Output) (r : Ramp), s.snd.outputs[o.val]? = some y → y.switch.ramp = some r → 1 ≤ r.step →
    r.length ≤ r.step →
    (y.phase = .down →
      leaves (.switchDownComplete o) s [.snd] fun t =>
        t.snd = { s.snd with
          outputs := s.snd.outputs.set o.val { y with phase := .waiting, switch := { y.switch with ramp := none } } }) ∧
    (y.phase = .up →
      leaves (.switchUpComplete o) s [.snd] fun t =>
        t.snd = { s.snd with
          outputs := s.snd.outputs.set o.val { y with phase := .steady, switch := { y.switch with ramp := none } } })

/-! ### Queries -/

/-- The five queries are answered with the fields of their lists and change nothing; METER READ and SUBTITLE QUERY are NOT_ACTIVE where
their units are off (R27, R105, R115, R136, R143). The presence bytes, and zeros for what is absent, follow R188 by the model's reading
(log entry 11), as is one byte for the eight latched levels; an entry count of 0 without a programme (log entry 26) and a remaining time of 0 for a stopped pulse or dead timer (log
entry 27) are its choices. -/
def Obligations.QueriesChangeNothing : Prop :=
  ∀ (tag : Byte) (s : State),
    let present (k : Nat) (x : Option Nat) : List Byte := match x with | some n => 1 :: beBytes k n | none => 0 :: beBytes k 0
    (s.asks (requestFrame 25 tag []) →
      replies (.showQuery tag []) s (requestFrame 25 tag []) .ok
        (s.ctl.state.code :: (present 4 (s.ctl.programme.map Programme.id) ++
          beBytes 1 ((s.ctl.programme.map fun p => p.entries.length).getD 0) ++ [outcomeCode s.ctl.outcome] ++
          present 4 s.ctl.schedule ++
          present 2 (if s.ctl.state = .paused then some (min 65535 (s.ctl.pausedMs / 1000)) else none) ++
          present 4 (s.ctl.build.map Build.id) ++ present 1 (s.ctl.build.map Build.next) ++
          (match s.ctl.event with
           | some e => 1 :: e.code.code :: e.state.code :: outcomeCode e.outcome :: (beBytes 4 e.programme ++ [0])
           | none => [0, 0, 0, 0, 0, 0, 0, 0, 0]))) [] fun _ => True) ∧
    (s.asks (requestFrame 43 tag []) →
      let x := s.snd
      let gain (g : Gain) : List Byte :=
        beBytes 2 g.cur ++ beBytes 2 g.target ++ beBytes 4 (match g.ramp with | some r => r.length - r.step | none => 0)
      replies (.soundQuery tag []) s (requestFrame 43 tag []) .ok
        ([if x.running then 0 else 1, s.tl.rate.code] ++ beBytes 1 x.map.length ++
          x.map.flatMap (fun r => beBytes 1 r.source ++ beBytes 1 r.output ++ beBytes 2 r.gain) ++
          [if x.pendingMap.isSome then 1 else 0] ++ x.outputs.flatMap (fun y => gain y.fader) ++ gain x.pause ++
          beBytes 4 x.globalDelay ++ x.outputs.flatMap (fun y => beBytes 2 y.trim) ++
          x.outputs.flatMap (fun y => beBytes 2 y.delay ++ present 2 y.pendingDelay ++ beBytes 2 y.switch.cur ++
            [match y.phase with | .steady => 0 | .down => 1 | .waiting => 2 | .up => 3]) ++
          beBytes 1 x.mainChannels ++ beBytes 1 x.assistChannels) [] fun _ => True) ∧
    (s.asks (requestFrame 47 tag []) →
      (s.meter.state = .off → refuses (.meterRead tag []) s (requestFrame 47 tag []) .notActive []) ∧
      (s.meter.state ≠ .off →
        let x := s.meter
        let result (r : MeterResult) : List Byte := beBytes 3 r.peak ++ beBytes 2 r.pass ++ [if r.valid then 1 else 0]
        replies (.meterRead tag []) s (requestFrame 47 tag []) .ok
          ([x.state.code, BitVec.ofNat 8 (x.mode.code * 16 + x.point.code)] ++ beBytes 1 x.base ++ beBytes 1 x.group ++
            beBytes 2 x.windowMs ++ (match x.trigger with | some g => [1, g.code] | none => [0, 0]) ++ beBytes 4 x.length ++
            beBytes 2 x.pass ++ beBytes 1 x.channel ++ x.results.flatMap result ++ x.slots.flatMap result ++
            (match x.details with
             | some d => [1, BitVec.ofNat 8 (d.mode.code * 16 + d.point.code)] ++ beBytes 2 d.pass ++ beBytes 3 d.peak ++
                 beBytes 1 d.channel ++ [d.trigger.code]
             | none => [0, 0, 0, 0, 0, 0, 0, 0, 0]) ++
            beBytes 3 x.watched.toNat ++ beBytes 3 x.threshold ++ beBytes 1 x.passCount ++ x.quiet.flatMap (beBytes 1) ++
            beBytes 3 x.alarms.toNat ++ beBytes 3 x.silence.raised.toNat ++
            (match x.silence.last with
             | some (o, c, e) => [1] ++ beBytes 1 o ++ [1, c.code] ++ [1] ++ beBytes 1 e
             | none => [0, 0, 0, 0, 0, 0]) ++
            beBytes 1 x.silence.count) [] fun _ => True)) ∧
    (s.asks (requestFrame 51 tag []) →
      (s.pwr.state ≠ .active → refuses (.subtitleQuery tag []) s (requestFrame 51 tag []) .notActive []) ∧
      (s.pwr.state = .active →
        let place (p : Option ReelTable) : List Byte := match p with
          | some c =>
            beBytes 1 c.entry ++ beBytes 1 c.reel ++ [if c.lost then 2 else 1] ++ beBytes 2 c.events.length ++
              beBytes 2 (c.events.countP fun e => !e.sent) ++ beBytes 2 c.defects
          | none => [0, 0, 0, 0, 0, 0, 0, 0, 0]
        let region (o : Option Occupant) : List Byte := match o with
          | some y => 1 :: (beBytes 4 y.number ++ beBytes 4 y.inFrame ++ beBytes 4 y.outFrame)
          | none => List.replicate 13 0
        let track (x : SubtitleTrack) : List Byte :=
          [if x.enabled then 1 else 0] ++ beBytes 1 x.lead ++ beBytes 1 x.markerEntry ++ beBytes 1 x.markerReel ++ place x.current ++
            place x.next ++ x.regions.flatMap region
        replies (.subtitleQuery tag []) s (requestFrame 51 tag []) .ok (track s.subs.main ++ track s.subs.assist) [] fun _ => True)) ∧
    (s.asks (requestFrame 65 tag []) →
      replies (.lineQuery tag []) s (requestFrame 65 tag []) .ok
        (s.cue.lines.flatMap (fun l => l.mode.code :: flagByte l.level :: flagByte l.pin :: beBytes 2 (l.pulse.getD 0)) ++
          s.cue.pairs.flatMap (fun p => flagByte p.enabled :: (beBytes 2 p.deadTime ++ p.state.code :: beBytes 2 (p.timer.getD 0))) ++
          [flagByte s.cue.hold, lineSet CueLine.latched s.cue, s.cue.mask, s.cue.pattern] ++
          (s.cue.inputs.zip s.cue.captures).flatMap fun x =>
            [x.1.edge.code, x.1.action.code, acceptedCode x.1.accepted, flagByte (x.2.any CaptureRecord.fresh)]) [] fun _ => True)

/-! ### The Level Monitor (chapter 6) -/

/-- METER SET replaces the set-up in IDLE, METER START begins a measurement there and METER STOP ends one without a report; SILENCE SET
replaces the watch settings and clears the quiet counts. OFF and MEASURING refuse as the rules say (R108, R109, R114, R116). NOT_ACTIVE
also for a SILENCE SET with a field out of range is the model's reading (log entry 10), and the mode in METER START's reply as a byte 0 to
3 its choice (log entry 33). -/
def Obligations.MeterRequests : Prop :=
  ∀ (tag : Byte) (s : State),
    (∀ (b : Byte) (base group window : Nat), base < 256 → group < 256 → window < 65536 →
      let p := b :: (beBytes 1 base ++ beBytes 1 group ++ beBytes 2 window)
      s.asks (requestFrame 44 tag p) →
      (s.meter.state = .off → refuses (.meterSet tag p) s (requestFrame 44 tag p) .notActive []) ∧
      (s.meter.state = .measuring → refuses (.meterSet tag p) s (requestFrame 44 tag p) .busy []) ∧
      (s.meter.state = .idle →
        ((∀ m q, b ≠ meterByte m q) → refuses (.meterSet tag p) s (requestFrame 44 tag p) .badField []) ∧
        ∀ m q, b = meterByte m q →
          let bad : Prop := 17 < base ∨ window < 10 ∨ 1000 < window ∨
            ((m = .sweep ∨ m = .cycle) ∧ ¬((group = 2 ∨ group = 4 ∨ group = 8 ∨ group = 16) ∧ base + group ≤ 18))
          (bad → refuses (.meterSet tag p) s (requestFrame 44 tag p) .badField []) ∧
          (¬bad → replies (.meterSet tag p) s (requestFrame 44 tag p) .ok [] [.meter] fun t =>
            t.meter = { s.meter with point := q, mode := m, base := base, group := group, windowMs := window }))) ∧
    (s.asks (requestFrame 45 tag []) →
      (s.meter.state = .off → refuses (.meterStart tag []) s (requestFrame 45 tag []) .notActive []) ∧
      (s.meter.state = .measuring → refuses (.meterStart tag []) s (requestFrame 45 tag []) .busy []) ∧
      (s.meter.state = .idle →
        let n := s.meter.windowMs * s.tl.rate.hz / 1000
        replies (.meterStart tag []) s (requestFrame 45 tag []) .ok (beBytes 4 n ++ beBytes 1 s.meter.mode.code) [.meter] fun t =>
          t.meter = { s.meter with
            results := s.meter.results.map (fun _ => { peak := 0, pass := 0, valid := false })
            slots := s.meter.slots.map (fun _ => { peak := 0, pass := 0, valid := false })
            length := n, channel := s.meter.base, left := n, peak := 0, windows := 0, pass := 1, trigger := some .request,
            state := .measuring })) ∧
    (s.asks (requestFrame 46 tag []) →
      (s.meter.state = .off → refuses (.meterStop tag []) s (requestFrame 46 tag []) .notActive []) ∧
      (s.meter.state = .idle → replies (.meterStop tag []) s (requestFrame 46 tag []) .ok [] [] fun _ => True) ∧
      (s.meter.state = .measuring →
        let revoked (r : MeterResult) : MeterResult := if r.pass = s.meter.pass then { r with valid := false } else r
        replies (.meterStop tag []) s (requestFrame 46 tag []) .ok [] [.meter] fun t =>
          t.meter = { s.meter with results := s.meter.results.map revoked, slots := s.meter.slots.map revoked,
                                   trigger := none, peak := 0, left := 0, state := .idle })) ∧
    ∀ set threshold count, set < 2 ^ 24 → threshold < 2 ^ 24 → count < 256 →
      let p := beBytes 3 set ++ beBytes 3 threshold ++ beBytes 1 count
      s.asks (requestFrame 48 tag p) →
      (s.meter.state = .off → refuses (.silenceSet tag p) s (requestFrame 48 tag p) .notActive []) ∧
      (s.meter.state ≠ .off →
        (2 ^ 18 ≤ set ∨ 8388608 < threshold ∨ count = 0 → refuses (.silenceSet tag p) s (requestFrame 48 tag p) .badField []) ∧
        (set < 2 ^ 18 → threshold ≤ 8388608 → 1 ≤ count →
          replies (.silenceSet tag p) s (requestFrame 48 tag p) .ok [] [.meter] fun t =>
            t.meter = { s.meter with watched := BitVec.ofNat 18 set, threshold := threshold, passCount := count,
                                     quiet := s.meter.quiet.map fun _ => 0 }))

/-- The completion of a window writes its peak; the last window of a pass reports the highest peak with its channel, ends SINGLE and SWEEP
and begins the next pass of WATCH and CYCLE, whose pass the silence watch evaluates output by output, with its SILENCE details (R110 to
R113, R117, R118). A running peak and samples left of 0 after SINGLE and SWEEP are the model's choice (log entry 35). -/
def Obligations.MeterWindowsAndSilenceWatch : Prop :=
  ∀ s : State, s.composed = true →
    let x := s.meter
    let r : MeterResult := { peak := x.peak, pass := x.pass, valid := true }
    (x.state ≠ .measuring ∨ x.left ≠ 0 → leaves .meterWindowComplete s [.link] fun _ => True) ∧
    (x.state = .measuring → x.left = 0 →
      (∀ tr, x.mode = .single → x.trigger = some tr → x.channel = x.base → x.base < x.results.length →
        leaves .meterWindowComplete s [.meter, .notice, .link] fun t =>
          t.meter = { x with results := x.results.set x.base r, windows := x.windows + 1, peak := 0, left := 0,
                             state := .idle, trigger := none,
                             details := some { mode := .single, point := x.point, pass := x.pass, peak := x.peak,
                                               channel := x.base, trigger := tr } } ∧ s.signals t .meter) ∧
      (x.mode = .watch → (x.windows + 1) % 8 ≠ 0 →
        leaves .meterWindowComplete s [.meter, .link] fun t =>
          t.meter = { x with slots := x.slots.set (x.windows % 8) r, windows := x.windows + 1, peak := 0, left := x.length }) ∧
      (x.mode = .watch → (x.windows + 1) % 8 = 0 →
        leaves .meterWindowComplete s [.meter, .notice, .link] fun t =>
          t.meter = { x with slots := x.slots.set 7 r, windows := x.windows + 1, peak := 0, left := x.length,
                             pass := min 65535 (x.pass + 1), channel := x.base, details := t.meter.details } ∧
          x.reported t.meter t.meter.slots 0 8 ∧ s.signals t .meter) ∧
      (x.mode = .sweep ∨ x.mode = .cycle → x.channel + 1 < x.base + x.group →
        leaves .meterWindowComplete s [.meter, .link] fun t =>
          t.meter = { x with results := x.results.set x.channel r, windows := x.windows + 1, peak := 0, left := x.length,
                             channel := x.channel + 1 }) ∧
      (x.mode = .sweep → x.channel + 1 = x.base + x.group →
        leaves .meterWindowComplete s [.meter, .notice, .link] fun t =>
          t.meter = { x with results := x.results.set x.channel r, windows := x.windows + 1, peak := 0, left := 0,
                             state := .idle, trigger := none, details := t.meter.details } ∧
          x.reported t.meter t.meter.results x.base x.group ∧ s.signals t .meter) ∧
      (x.mode = .cycle → x.channel + 1 = x.base + x.group → x.quiet.length = 18 →
        let peakOf (o : Nat) : Nat := if o = x.channel ∧ o < x.results.length then x.peak else ((x.results[o]?).map MeterResult.peak).getD 0
        let evaluated (o : Nat) : Prop :=
          x.point = .output ∧ s.ctl.state = .running ∧ x.watched.getLsbD o = true ∧ x.base ≤ o ∧ o < x.base + x.group
        let quiet (o : Nat) : Prop := peakOf o < x.threshold
        let changes (o : Nat) : Prop :=
          evaluated o ∧ ((quiet o ∧ x.alarms.getLsbD o = false ∧ x.passCount ≤ (x.quiet[o]?).getD 0 + 1) ∨
            (¬quiet o ∧ x.alarms.getLsbD o = true))
        leaves .meterWindowComplete s [.meter, .acct, .notice, .link] fun t =>
          t.meter = { x with results := x.results.set x.channel r, windows := x.windows + 1, peak := 0, left := x.length,
                             pass := min 65535 (x.pass + 1), channel := x.base, details := t.meter.details,
                             quiet := t.meter.quiet, alarms := t.meter.alarms, silence := t.meter.silence } ∧
          x.reported t.meter t.meter.results x.base x.group ∧ s.signals t .meter ∧
          ((∀ o, o < 18 → ¬changes o) → t.meter.silence = x.silence ∧ s.silent t .silence) ∧
          (∀ os : List Nat, os ≠ [] → os.Nodup → (∀ o, o ∈ os ↔ o < 18 ∧ changes o) →
            (∀ o, o < 18 → (o ∈ os → (t.meter.silence.raised.getLsbD o = true ↔ quiet o)) ∧
              (o ∉ os → t.meter.silence.raised.getLsbD o = x.silence.raised.getLsbD o)) ∧
            (∀ o, o ∈ os → (∀ k, k ∈ os → k ≤ o) → ∃ change,
              t.meter.silence.last = some (o, change, s.tl.entry) ∧ (quiet o → change = .raised) ∧ (¬quiet o → change = .cleared)) ∧
            t.meter.silence.count = min 255 (x.silence.count + os.length) ∧ s.signals t .silence) ∧
          ∀ o q, o < 18 → x.quiet[o]? = some q →
            let n := min x.passCount (q + 1)
            (¬evaluated o → t.meter.quiet[o]? = some q ∧ t.meter.alarms.getLsbD o = x.alarms.getLsbD o) ∧
            (evaluated o → x.threshold ≤ peakOf o → t.meter.quiet[o]? = some 0 ∧ t.meter.alarms.getLsbD o = false) ∧
            (evaluated o → peakOf o < x.threshold →
              t.meter.quiet[o]? = some n ∧
              t.meter.alarms.getLsbD o = (x.alarms.getLsbD o || decide (n = x.passCount)) ∧
              ∀ before rec es e after, s.acct.log = before ++ [rec] → rec.outcome = none → rec.entries = es ++ e :: after →
                es.length = s.tl.entry → n = x.passCount →
                ∃ rec' es' e' after', t.acct.log = before ++ [rec'] ∧ rec'.entries = es' ++ e' :: after' ∧
                  es'.length = s.tl.entry ∧ e'.silent.getLsbD o = true)))

/-! ### The Subtitle Engine (chapter 7) -/

/-- SUBTITLE SET stores the lead; disabling a track sends CLEAR ALL and empties its regions, enabling one marks the events already due
as sent; in ARMING a change of an enable can complete the priming, and the show is then ARMED (R31, R121 to R123). NOT_ACTIVE outside
ACTIVE also for a lead above 8 is the model's reading (log entry 10). -/
def Obligations.SubtitleSetChangesTheEnable : Prop :=
  ∀ (tag : Byte) (tr : Track) (on : Bool) (lead : Nat) (s : State), lead < 256 →
    let p := tr.code :: flagByte on :: beBytes 1 lead
    let x := s.subs.track tr
    s.asks (requestFrame 50 tag p) →
    (s.pwr.state ≠ .active → refuses (.subtitleSet tag p) s (requestFrame 50 tag p) .notActive []) ∧
    (s.pwr.state = .active →
      (8 < lead → refuses (.subtitleSet tag p) s (requestFrame 50 tag p) .badField []) ∧
      (lead ≤ 8 →
        let due (e : SubtitleEvent) : SubtitleEvent := if e.inFrame - lead ≤ s.tl.frame then { e with sent := true } else e
        let marked (c : ReelTable) : ReelTable :=
          if (s.ctl.state = .running ∨ s.ctl.state = .paused) ∧ c.entry = s.tl.entry then { c with events := c.events.map due } else c
        let armed (t : State) : Prop := s.arms t ∧ (s.ctl.state ≠ .arming → t.ctl = s.ctl ∧ t.notice = s.notice)
        (x.enabled = on →
          replies (.subtitleSet tag p) s (requestFrame 50 tag p) .ok [] [.subs] fun t => s.trackBecomes t tr { x with lead := lead }) ∧
        (x.enabled = true → on = false →
          replies (.subtitleSet tag p) s (requestFrame 50 tag p) .ok [] [.subs, .ports, .ctl, .notice] fun t =>
            s.trackBecomes t tr { x with lead := lead, enabled := false, regions := x.regions.map fun _ => none } ∧ armed t ∧
            (tr = .main → t.ports = { s.ports with overlay := s.ports.overlay ++ [.clearAll] }) ∧
            (tr = .assist → t.ports = { s.ports with assist := s.ports.assist ++ [.clearAll] })) ∧
        (x.enabled = false → on = true →
          replies (.subtitleSet tag p) s (requestFrame 50 tag p) .ok [] [.subs, .ctl, .notice] fun t =>
            s.trackBecomes t tr { x with lead := lead, enabled := true, current := x.current.map marked, next := x.next.map marked } ∧
            armed t)))

/-! ### The Cue Unit (chapter 8) -/

/-- LINE, LINE PULSE and LINE CONFIG act on one line by its mode, the pin following the level unless the hold is set; what does not fit
is refused; a pulse ends when its timer has run out (R141 to R143). -/
def Obligations.LineRequestsAndPulses : Prop :=
  ∀ (tag i : Byte) (s : State) (l : CueLine), s.cue.lines[i.toNat]? = some l → i.toNat < 8 →
    let pin (b : Bool) : Bool := if s.cue.hold then l.pin else b
    let becomes (t : State) (m : CueLine) : Prop := t.cue = { s.cue with lines := s.cue.lines.set i.toNat m }
    (∀ (op : LineOp) (c : Byte), c = (match op with | .set => 1 | .clear => 2 | .toggle => 3) →
      s.asks (requestFrame 57 tag [i, c]) →
      (l.mode = .pair ∨ (l.mode = .pulse ∧ op ≠ .clear) → refuses (.line tag [i, c]) s (requestFrame 57 tag [i, c]) .badField []) ∧
      (l.mode = .level ∨ (l.mode = .pulse ∧ op = .clear) →
        let b : Bool := match op with | .set => true | .clear => false | .toggle => !l.level
        replies (.line tag [i, c]) s (requestFrame 57 tag [i, c]) .ok [flagByte b, flagByte (pin b)] [.cue] fun t =>
          becomes t { l with level := b, pin := pin b, pulse := if op = .clear then none else l.pulse })) ∧
    (∀ j c : Byte, s.asks (requestFrame 57 tag [j, c]) → 8 ≤ j.toNat ∨ c = 0 ∨ 4 ≤ c.toNat →
      refuses (.line tag [j, c]) s (requestFrame 57 tag [j, c]) .badField []) ∧
    (∀ w, w < 65536 →
      let p := i :: beBytes 2 w
      s.asks (requestFrame 58 tag p) →
      (l.mode ≠ .pulse ∨ w < 10 ∨ 10000 < w → refuses (.linePulse tag p) s (requestFrame 58 tag p) .badField []) ∧
      (l.mode = .pulse → 10 ≤ w → w ≤ 10000 →
        replies (.linePulse tag p) s (requestFrame 58 tag p) .ok [1, flagByte (pin true)] [.cue] fun t =>
          becomes t { l with level := true, pin := pin true, pulse := some w })) ∧
    (∀ (m : LineMode) (c : Byte), (m = .level ∧ c = 0) ∨ (m = .pulse ∧ c = 1) → s.asks (requestFrame 56 tag [i, c]) →
      (s.ctl.state = .running ∨ s.ctl.state = .paused → refuses (.lineConfig tag [i, c]) s (requestFrame 56 tag [i, c]) .busy []) ∧
      (s.ctl.state ≠ .running → s.ctl.state ≠ .paused →
        ((s.cue.pairOf (i.toNat / 2)).enabled = true →
          refuses (.lineConfig tag [i, c]) s (requestFrame 56 tag [i, c]) .badField []) ∧
        ((s.cue.pairOf (i.toNat / 2)).enabled = false →
          (l.mode = m → replies (.lineConfig tag [i, c]) s (requestFrame 56 tag [i, c]) .ok [] [] fun _ => True) ∧
          (l.mode ≠ m → replies (.lineConfig tag [i, c]) s (requestFrame 56 tag [i, c]) .ok [] [.cue] fun t =>
            becomes t { l with mode := m, level := false, pulse := none, pin := pin false })))) ∧
    ∀ f : Fin 8, f.val = i.toNat →
      (s.pwr.state ≠ .night → l.pulse = some 0 →
        leaves (.pulseExpiry f) s [.cue] fun t => becomes t { l with level := false, pulse := none, pin := pin false }) ∧
      (s.pwr.state = .night ∨ l.pulse ≠ some 0 → exec (.pulseExpiry f) s = .next s)

/-- A pair request moves an enabled pair by the table of R145, PAIR CONFIG enables and disables by R144, and a dead timer that has run
out lets its target line go active (R144 to R146). Stated for states with the invariant of InterlockKeptByEveryStep. BUSY whatever the
dead time is the model's reading (log entry 10); the order of levels and pins in PAIR's reply (log entry 40), 0 for a stopped dead timer
(log entry 27) and the dead time of a disabled pair (log entry 36) are its choices. -/
def Obligations.PairRequestsAndDeadTimes : Prop :=
  ∀ (tag k : Byte) (s : State) (p : Pair) (a b : CueLine), s.linesKept → k.toNat < 4 → s.cue.pairs[k.toNat]? = some p →
    s.cue.lines[2 * k.toNat]? = some a → s.cue.lines[2 * k.toNat + 1]? = some b →
    let n := k.toNat
    let pin (l : CueLine) (v : Bool) : Bool := if s.cue.hold then l.pin else v
    (∀ (g : PairTarget) (c : Byte), c = (match g with | .a => 1 | .b => 2 | .off => 3) → s.asks (requestFrame 60 tag [k, c]) →
      (p.enabled = false → refuses (.pair tag [k, c]) s (requestFrame 60 tag [k, c]) .badField []) ∧
      (p.enabled = true →
        let r := pairAfter p g
        let va := decide (r.1 = .aOn)
        let vb := decide (r.1 = .bOn)
        replies (.pair tag [k, c]) s (requestFrame 60 tag [k, c]) .ok
          ([r.1.code, flagByte va, flagByte (pin a va), flagByte vb, flagByte (pin b vb)] ++ beBytes 2 (r.2.getD 0)) [.cue] fun t =>
            s.cue.pairMoved t.cue n p r.1 r.2)) ∧
    (∀ (on : Bool) (td : Nat), td < 65536 →
      let q := k :: flagByte on :: beBytes 2 td
      s.asks (requestFrame 59 tag q) →
      (s.ctl.state = .running ∨ s.ctl.state = .paused → refuses (.pairConfig tag q) s (requestFrame 59 tag q) .busy []) ∧
      (s.ctl.state ≠ .running → s.ctl.state ≠ .paused →
        (5000 < td → refuses (.pairConfig tag q) s (requestFrame 59 tag q) .badField []) ∧
        (td ≤ 5000 →
          let clash : Bool := s.cue.hold && a.pin && b.pin
          let timer : Option Nat := if td = 0 then none else some td
          let becomes (t : State) (c d : CueLine) (e : Pair) : Prop :=
            t.cue = { s.cue with lines := (s.cue.lines.set (2 * n) c).set (2 * n + 1) d, pairs := s.cue.pairs.set n e }
          (p.enabled = false → on = true → clash = true → refuses (.pairConfig tag q) s (requestFrame 59 tag q) .busy []) ∧
          (p.enabled = false → on = true → clash = false →
            replies (.pairConfig tag q) s (requestFrame 59 tag q) .ok [] [.cue] fun t =>
              becomes t { a with mode := .pair, pulse := none, level := false, pin := pin a false }
                { b with mode := .pair, pulse := none, level := false, pin := pin b false }
                { enabled := true, deadTime := td, state := .off, timer := if a.level || b.level then timer else none }) ∧
          (p.enabled = on → replies (.pairConfig tag q) s (requestFrame 59 tag q) .ok [] [.cue] fun t =>
            becomes t a b { p with deadTime := td }) ∧
          (p.enabled = true → on = false → replies (.pairConfig tag q) s (requestFrame 59 tag q) .ok [] [.cue] fun t =>
            becomes t { a with mode := .level, level := false, pin := pin a false }
              { b with mode := .level, level := false, pin := pin b false }
              { enabled := false, deadTime := td, state := .off, timer := none })))) ∧
    ∀ f : Fin 4, f.val = n →
      (s.pwr.state = .night ∨ p.timer ≠ some 0 → exec (.deadTimerExpiry f) s = .next s) ∧
      (s.pwr.state ≠ .night → p.enabled = true → p.timer = some 0 →
        let target : PairState := if p.state = .deadA then .aOn else if p.state = .deadB then .bOn else p.state
        leaves (.deadTimerExpiry f) s [.cue] fun t => s.cue.pairMoved t.cue n p target none)

/-- INPUT CONFIG sets an input's edge and action, CAPTURE READ answers with a capture record and clears its fresh flag and count,
EMERGENCY CONFIG replaces the pattern, HOLD RELEASE ends the hold by the table of R152 (R148, R150, R152). The release is stated for
states with the invariant of InterlockKeptByEveryStep. The bytes of a capture record, of the INPUT details and of HOLD RELEASE's reply
are the model's choice (log entry 11). -/
def Obligations.InputsPatternAndHold : Prop :=
  ∀ (tag n c d : Byte) (s : State),
    (s.asks (requestFrame 61 tag [n, c, d]) →
      (7 < n.toNat ∨ c = 0 ∨ 3 < c.toNat ∨ 7 < d.toNat →
        refuses (.inputConfig tag [n, c, d]) s (requestFrame 61 tag [n, c, d]) .badField []) ∧
      ∀ (x : BoothInput) (e : Edge) (a : InputAction), n.toNat ≤ 7 → c = e.code → d = a.code →
        s.cue.inputs[n.toNat]? = some x →
        replies (.inputConfig tag [n, c, d]) s (requestFrame 61 tag [n, c, d]) .ok [] [.cue] fun t =>
          t.cue = { s.cue with inputs := s.cue.inputs.set n.toNat { x with edge := e, action := a } }) ∧
    (s.asks (requestFrame 62 tag [n]) →
      (7 < n.toNat → refuses (.captureRead tag [n]) s (requestFrame 62 tag [n]) .badField []) ∧
      ∀ x, n.toNat ≤ 7 → s.cue.captures[n.toNat]? = some x →
        replies (.captureRead tag [n]) s (requestFrame 62 tag [n]) .ok
          ((match x with
            | none => List.replicate 15 0
            | some r =>
              1 :: r.edge.code :: ((match r.place with
                | some y => 1 :: (beBytes 1 y.1 ++ 1 :: beBytes 4 y.2)
                | none => List.replicate 7 0) ++ beBytes 4 r.clock ++ flagByte r.fresh :: beBytes 1 r.count)) ++
            (match s.cue.inputDetails with
             | none => List.replicate 9 0
             | some y => 1 :: (beBytes 1 y.input ++ [y.edge.code, y.action.code, y.result.code] ++ beBytes 1 y.count ++ [0, 0, 0])))
          [.cue] fun t =>
            t.cue = { s.cue with
              captures := s.cue.captures.set n.toNat (x.map fun r => { r with fresh := false, count := 0 }) }) ∧
    (s.asks (requestFrame 63 tag [c, d]) →
      replies (.emergencyConfig tag [c, d]) s (requestFrame 63 tag [c, d]) .ok [] [.cue] fun t =>
        t.cue = { s.cue with mask := c, pattern := d }) ∧
    (s.asks (requestFrame 64 tag []) →
      let answer (t : State) : Prop :=
        s.answered t (requestFrame 64 tag []) .ok (lineSet CueLine.pin t.cue :: t.cue.pairs.map fun p => p.state.code)
      (s.cue.hold = false → ∃ t, exec (.holdRelease tag []) s = .next t ∧ answer t ∧ s.changesOnly t [.link]) ∧
      (s.cue.hold = true → s.linesKept →
        ∃ t, exec (.holdRelease tag []) s = .next t ∧ answer t ∧ s.changesOnly t [.link, .cue] ∧
          t.cue = { s.cue with lines := t.cue.lines, pairs := t.cue.pairs, hold := false } ∧ t.linesKept ∧
          (∀ i l, s.cue.lines[i]? = some l → (s.cue.pairOf (i / 2)).enabled = false →
            t.cue.lines[i]? = some { l with pin := l.level }) ∧
          ∀ k p, s.cue.pairs[k]? = some p →
            let dead (st on : PairState) : Pair :=
              if p.deadTime = 0 then { p with state := on, timer := none } else { p with state := st, timer := some p.deadTime }
            let pinA := s.cue.pinOf (2 * k)
            let pinB := s.cue.pinOf (2 * k + 1)
            (p.enabled = false ∨ (pinA = false ∧ pinB = false) → t.cue.pairs[k]? = some p) ∧
            (p.enabled = true → pinA = true →
              (p.state = .aOn ∨ p.state = .deadA → t.cue.pairs[k]? = some { p with state := .aOn, timer := none }) ∧
              (p.state = .off → t.cue.pairs[k]? = some (dead .off .off)) ∧
              (p.state = .bOn ∨ p.state = .deadB → t.cue.pairs[k]? = some (dead .deadB .bOn))) ∧
            (p.enabled = true → pinA = false → pinB = true →
              (p.state = .bOn ∨ p.state = .deadB → t.cue.pairs[k]? = some { p with state := .bOn, timer := none }) ∧
              (p.state = .off → t.cue.pairs[k]? = some (dead .off .off)) ∧
              (p.state = .aOn ∨ p.state = .deadA → t.cue.pairs[k]? = some (dead .deadA .aOn)))))

/-- A millisecond boundary counts every running timer down and steps every input's filter; an edge accepted on a CAPTURE input that
matches fills its capture record and reports (R27, R64, R137, R147, R148). Stated for a boundary at which no timer runs out; the other
actions and the expiries are stated in InputActionsAndExpiries. That one boundary counts every timer, and comes after 48 or 96 sample
periods in ACTIVE, is the model's choice (log entry 15), and so is an INPUT event count since reset (log entry 20). -/
def Obligations.MillisecondBoundaryCountsAndFilters : Prop :=
  ∀ (levels : BitVec 8) (s : State), s.composed = true →
    (s.pwr.state = .night ∨ (s.pwr.state = .active ∧ s.cue.msTaken < s.cue.msLength) →
      exec (.millisecondBoundary levels) s = .next s) ∧
    (s.pwr.state = .ready ∨ (s.pwr.state = .active ∧ s.cue.msLength ≤ s.cue.msTaken) → s.timersRunOn →
      ((∀ x ∈ s.cue.inputs, x.action = .none) →
        leaves (.millisecondBoundary levels) s [.cue, .ctl, .intake, .freeCount, .link] fun t =>
          s.cue.counted t.cue levels ∧ t.cue.captures = s.cue.captures ∧ t.cue.inputDetails = s.cue.inputDetails ∧
          s.countsDown t ∧
          (s.pwr.state = .active →
            t.cue.msTaken = s.cue.msTaken - s.cue.msLength ∧ t.cue.msLength = s.tl.rate.hz / 1000)) ∧
      ∀ n x v, n < 8 → s.cue.inputs[n]? = some x → (∀ j y, j ≠ n → s.cue.inputs[j]? = some y → y.action = .none) →
        n < s.cue.captures.length → x.action = .capture → x.run = 2 → x.last = some v → x.accepted = some !v →
        levels.getLsbD n = v →
        let edge : Edge := if v then .rise else .fall
        x.edge = .both ∨ x.edge = edge →
        leaves (.millisecondBoundary levels) s [.cue, .ctl, .intake, .freeCount, .notice, .link] fun t =>
          s.cue.counted t.cue levels ∧ s.countsDown t ∧
          t.cue.captures[n]? = some (some
            { edge := edge, place := s.place, clock := s.pwr.clock, fresh := true,
              count := min 255 ((((s.cue.captures[n]?).join).map CaptureRecord.count).getD 0 + 1) }) ∧
          t.cue.inputDetails = some
            { input := n, edge := edge, action := .capture, result := .performed,
              count := min 255 ((s.cue.inputDetails.map InputDetails.count).getD 0 + 1) } ∧
          s.signals t .input)

/-- An edge accepted on an input is captured and its action taken to its owner, with the result in the INPUT details; in READY only CAPTURE
and EMERGENCY are acted on (R33, R35 to R38, R109, R148 to R150). An expiry that an earlier boundary left due is taken first, as by its own
command, and one that this boundary makes due is taken before its inputs or left to its own command (R12, R146): stated of one expiry,
with no other timer running out at or before this boundary. Each timer's and each
input's event is taken whole in the boundary, in the model's order (log entries 4, 5, 15, 29 and 34); CAPTURE and METER are performed in
STOPPING too, its choice (log entry 28), as are the count of the INPUT details (log entry 20) and when a line of a pair was active as
an emergency strikes it (log entry 19). -/
def Obligations.InputActionsAndExpiries : Prop :=
  ∀ (levels : BitVec 8) (s : State), s.composed = true → s.cue.inputs.length = 8 →
    s.pwr.state = .ready ∨ (s.pwr.state = .active ∧ s.cue.msLength ≤ s.cue.msTaken) →
    (∀ (n : Nat) (x : BoothInput) (v : Bool) (a : InputAction), s.timersRunOn → n < 8 → s.cue.inputs[n]? = some x → x.action = a →
      (∀ j y, j ≠ n → s.cue.inputs[j]? = some y → y.action = .none) →
      x.run = 2 → x.last = some v → x.accepted = some !v → levels.getLsbD n = v →
      let edge : Edge := if v then .rise else .fall
      x.edge = .both ∨ x.edge = edge →
      let acts (r : InputResult) (bs : List Block) (post : State → State → Prop) : Prop :=
        leaves (.millisecondBoundary levels) s ([.cue, .ctl, .intake, .notice, .link, .freeCount] ++ bs) fun t =>
          let u := s.accepted levels n edge a r
          s.signals t .input ∧ t.cue.captures = u.cue.captures ∧ t.cue.inputDetails = u.cue.inputDetails ∧ post u t
      let stays (r : InputResult) : Prop := acts r [] fun u t => t.cue = u.cue ∧ t.ctl = u.ctl ∧ t.intake = u.intake
      (a = .capture → stays .performed) ∧
      (s.pwr.state = .ready → a ∈ [InputAction.start, .pause, .resume, .stop, .meter] → stays .ignored) ∧
      (s.pwr.state = .active →
        (a = .start → s.ctl.state ≠ .armed → stays .ignored) ∧
        (a = .start → s.ctl.state = .armed → (∃ k ∈ s.ctl.pins, ¬s.validKey k) →
          acts .refused [] fun u t => t.cue = u.cue ∧ t.intake = u.intake ∧ s.signals t .show ∧
            t.ctl = { u.ctl with event := s.ctl.reporting .startFailed .armed none }) ∧
        (∀ p e, a = .start → s.ctl.state = .armed → (∀ k ∈ s.ctl.pins, s.validKey k) → s.ctl.programme = some p →
          p.entries[0]? = some e →
          acts .performed [.tl, .pic, .snd, .meter, .subs, .acct, .caps, .ports] fun u t => s.signals t .show ∧
            t.ctl = { u.ctl with state := .running, schedule := none, event := s.ctl.reporting .started .running none } ∧
            t.tl = { mode := .advancing, rate := e.rate, entry := 0, reel := 0, frame := 0, phase := 0,
                     samplesPerFrame := e.rate.hz / e.editRate, total := e.total, countPoint := e.countPoint }) ∧
        (a = .pause → s.ctl.state ≠ .running → stays .ignored) ∧
        (∀ p, a = .pause → s.ctl.state = .running → s.ctl.programme = some p →
          acts .performed [.tl, .snd, .meter] fun u t => t.cue = u.cue ∧ t.intake = u.intake ∧ s.signals t .show ∧
            t.ctl = { u.ctl with
              state := .paused, pausedMs := 0, event := s.ctl.reporting .paused .paused none
              pauseTimer := if p.pauseLimit = 0 then none else some (p.pauseLimit * 1000) } ∧
            t.tl = { s.tl with mode := .frozen } ∧ t.snd = { s.snd with pause := s.snd.pause.begun 0 (s.tl.rate.hz / 50) } ∧
            t.meter = { s.meter with quiet := s.meter.quiet.map fun _ => 0 }) ∧
        (a = .resume → s.ctl.state ≠ .paused → stays .ignored) ∧
        (a = .resume → s.ctl.state = .paused →
          acts .performed [.tl, .snd] fun u t => t.cue = u.cue ∧ t.intake = u.intake ∧ s.signals t .show ∧
            t.ctl = { u.ctl with state := .running, pauseTimer := none, event := s.ctl.reporting .resumed .running none } ∧
            t.tl = { s.tl with mode := .advancing } ∧
            t.snd = { s.snd with pause := s.snd.pause.begun 16384 (s.tl.rate.hz / 50) }) ∧
        (a = .stop → s.ctl.state = .empty ∨ s.ctl.state = .loaded ∨ s.ctl.state = .stopping → stays .ignored) ∧
        (a = .stop → s.ctl.state = .arming ∨ s.ctl.state = .armed →
          acts .performed [.keys, .subs] fun u t => t.cue = u.cue ∧ u.disarmsWith t .disarmed) ∧
        (a = .stop → s.ctl.state = .running ∨ s.ctl.state = .paused →
          acts .performed [.tl, .pic, .snd, .meter, .subs, .ports] fun u t => t.cue = u.cue ∧ u.stopsWith t .stopped 20) ∧
        (a = .meter → s.meter.state ≠ .idle → stays .ignored) ∧
        (a = .meter → s.meter.state = .idle →
          acts .performed [.meter] fun u t => t.cue = u.cue ∧ t.ctl = u.ctl ∧ t.intake = u.intake ∧
            ∃ k, k = s.meter.windowMs * s.tl.rate.hz / 1000 ∧ t.meter = { s.meter with
              results := s.meter.results.map (fun _ => { peak := 0, pass := 0, valid := false })
              slots := s.meter.slots.map (fun _ => { peak := 0, pass := 0, valid := false })
              length := k, channel := s.meter.base, left := k, peak := 0, windows := 0, pass := 1, trigger := some .input,
              state := .measuring })) ∧
      (a = .emergency →
        (s.ctl.state = .running ∨ s.ctl.state = .paused →
          acts .performed [.tl, .pic, .snd, .meter, .subs, .ports] fun u t => u.cue.struck t.cue ∧ u.stopsWith t .interrupted 10) ∧
        (s.ctl.state = .stopping →
          acts .performed [.snd] fun u t => u.cue.struck t.cue ∧ t.intake = u.intake ∧
            t.ctl = { u.ctl with outcome := some (if s.ctl.outcome = some .complete then .complete else .interrupted) } ∧
            t.snd = { s.snd with pause := s.snd.pause.begun 0 (s.tl.rate.hz / 100) }) ∧
        (s.ctl.state = .empty ∨ s.ctl.state = .loaded ∨ s.ctl.state = .arming ∨ s.ctl.state = .armed →
          acts .performed [] fun u t => u.cue.struck t.cue ∧ t.ctl = u.ctl ∧ t.intake = u.intake))) ∧
    ∀ (c : Instr) (m : State), (∀ x ∈ s.cue.inputs, x.action = .none) →
      (∃ i, c = .pulseExpiry i) ∨ (∃ k, c = .deadTimerExpiry k) ∨ c = .armTimeout ∨ c = .pauseLimitExpiry ∨ (∃ i, c = .storageTimeout i) →
      s.othersRunOn c →
      (exec c s = .next m → m.timersRunOn →
        ∃ t, exec (.millisecondBoundary levels) s = .next t ∧ (m.ticked levels).changesOnly t [.link, .freeCount]) ∧
      (s.timersFrom 1 → exec c (s.ticked levels) = .next m → m.timersFrom 1 →
        ∃ t, exec (.millisecondBoundary levels) s = .next t ∧
          ((s.ticked levels).changesOnly t [.link, .freeCount] ∨ m.changesOnly t [.link, .freeCount]))

/-! ### Essence intake (chapter 4) -/

/-- A DATA, ERROR or TIMEOUT for an outstanding request frees its slot: a unit that is malformed or inconsistent is LOST with cause FORMAT; a
clear one is opened with the payload that was sent; an encrypted one needs the lookup of R55 and the keyed check over its plaintext, with
one re-read on a mismatch; an error or timeout is retried up to three times. A queue entry becomes READY or LOST and its report may
complete the priming; a subtitle request is delivered in its window and HELD before it. Without a matching slot nothing happens, and a
record that is no record stops the reading until the link is idle (R31, R55, R62 to R66, R71 to R75, R124 to R128, R134, R135, R187). The
cipher and the keyed check are free values (log entry 6). The model's choices: the drops of a late table are offered before its LATE and
a loss for a reel gone by is LATE only (log entry 25), and a fault is offered before what it is reported to reports (log entry 31). -/
def Obligations.StorageReplies : Prop :=
  ∀ (s : State), s.composed = true →
    (∀ seq code unit, (∀ r, some r ∈ s.intake.slots → r.seq ≠ seq) →
      leaves (.storageData seq unit) s [.link] (fun _ => True) ∧
      (code = 1 ∨ code = 2 ∨ code = 3 → leaves (.storageError seq code) s [.link] fun _ => True)) ∧
    (s.pwr.state = .active → s.intake.ignoring = false →
      (∀ seq code, code = 0 ∨ 4 ≤ code.toNat →
        leaves (.storageError seq code) s [.intake, .link] fun t => t.intake = { s.intake with ignoring := true }) ∧
      (∀ ty rest, ty ≠ 0x81 → ty ≠ 0x82 →
        leaves (.storageRecordDiscard (ty :: rest)) s [.intake] fun t => t.intake = { s.intake with ignoring := true })) ∧
    (leaves .storageLinkIdle s [.intake] fun t => t.intake = { s.intake with ignoring := false }) ∧
    ∀ i r, s.intake.slots[i]? = some (some r) →
      let ends (c : Instr) (fate : Nat → Bool → Fate) : Prop :=
        leaves c s [.intake, .subs, .acct, .ctl, .caps, .notice, .link] fun t => s.settles t i r fate
      (∀ k : Fin 4, k.val = i → r.timer = 0 → ends (.storageTimeout k) r.owner.fails) ∧
      (firstAt s.intake.slots (fun x => ∃ y, x = some y ∧ y.seq = r.seq) i (some r) → s.pwr.state = .active →
        s.intake.ignoring = false →
        (∀ code, code = 1 ∨ code = 2 ∨ code = 3 → ends (.storageError r.seq code) r.owner.fails) ∧
        ∀ e, s.entryAt r.owner.entryOf = some e → r.unit < 2 ^ 32 →
          let kind := r.owner.expects.code.toNat
          (∀ unit : List Byte,
            let flags := field unit 5 1
            let header := if flags = 3 then 54 else 14
            unit.length < header ∨ field unit 0 4 ≠ 0xE41655AA ∨ (flags ≠ 0 ∧ flags ≠ 3) ∨ field unit 10 4 ≠ unit.length - header ∨
              field unit 4 1 ≠ kind ∨ field unit 6 4 ≠ r.unit ∨ ¬r.owner.lengthFits e (field unit 10 4) →
            ends (.storageData r.seq unit) fun _ _ => .lost .format r.owner.told) ∧
          ∀ payload : List Byte, payload.length < 2 ^ 32 → r.owner.lengthFits e payload.length →
            ends (.storageData r.seq (clearUnit kind r.unit payload)) (fun _ _ => .ready payload) ∧
            ∀ (keyId : Id) (counter : BitVec 64) (tag : Id),
              let unit := sealedUnit kind r.unit keyId counter tag payload
              (∀ n, s.refusal keyId e.composition r.owner.expects = some n →
                ends (.storageData r.seq unit) fun _ _ => .lost .key (idBytes keyId ++ beBytes 1 n)) ∧
              ∀ k, s.refusal keyId e.composition r.owner.expects = none → s.keys.find keyId = some k →
                let plain := payload.mapIdx fun j b => b ^^^ Config.keyStream k.contentKey counter j
                (Config.keyedCheck k.checkKey plain = tag → ends (.storageData r.seq unit) fun _ _ => .ready plain) ∧
                (Config.keyedCheck k.checkKey plain ≠ tag → ends (.storageData r.seq unit) r.owner.mismatches))

/-- A visit of the sweep at a queue's station re-issues the oldest entry that awaits it, else reads the unit at the cursor, which moves to the
position that follows and, as the picture cursor enters a reel, adds its subtitle requests; at the subtitle list it issues the oldest
request that awaits one. The READ takes the free slot of lowest number, and the pointer moves on; a station without work is passed, and
without work, in IDLE or without a free slot the sweep waits (R64, R67 to R70). MAIN's request before ASSIST's is the model's choice (log
entry 30). -/
def Obligations.SweepVisitIssuesOneRead : Prop :=
  ∀ (s : State), s.composed = true →
    (s.intake.mode = .idle ∨ (∀ x ∈ s.intake.slots, x ≠ none) → leaves .sweepVisit s [.link] fun _ => True) ∧
    ((∀ st, ¬s.hasWork st) → leaves .sweepVisit s [.link] fun _ => True) ∧
    ∀ i x, s.intake.mode = .fetching → firstAt s.intake.slots (fun y => y = none) i x →
      let onward : Station := match s.intake.station with | .pq => .sq0 | .sq0 => .sq1 | .sq1 => .subtitles | .subtitles => .pq
      let issued (t : State) (owner : Owner) (id unit : Nat) : Prop :=
        t.intake.mode = .fetching ∧ t.intake.seq = s.intake.seq + 1 ∧ t.intake.station = onward ∧
        t.intake.ignoring = s.intake.ignoring ∧
        t.intake.slots = s.intake.slots.set i (some { seq := s.intake.seq, owner := owner, trackId := id, unit := unit, timer := 250 }) ∧
        t.ports = { s.ports with storage := s.ports.storage ++ [{ seq := s.intake.seq, trackId := id, unit := unit }] }
      (¬s.hasWork s.intake.station → (∃ st, s.hasWork st) →
        leaves .sweepVisit s [.intake, .link] fun t => t.intake = { s.intake with station := onward }) ∧
      (∀ j r, s.intake.station = .subtitles → firstAt s.intake.requests (fun r => r.status = .awaiting) j r →
        (∀ k y, s.intake.requests[k]? = some y → y.track = r.track → y.entry = r.entry → y.reel = r.reel → k = j) →
        leaves .sweepVisit s [.intake, .ports, .link] fun t =>
          issued t (.subtitle r.track r.entry r.reel) r.trackId 0 ∧
          t.intake.requests = s.intake.requests.set j { r with status := .inFlight i } ∧
          ∀ q, t.intake.queue q = s.intake.queue q ∧ t.intake.cursor q = s.intake.cursor q) ∧
      ∀ q : QueueId, s.intake.station = (match q with | .pq => .pq | .sq0 => .sq0 | .sq1 => .sq1) →
        let track (rl : Reel) : Nat := match q with | .pq => rl.picture | .sq0 => rl.mainSound | .sq1 => rl.assistSound.getD 0
        let queues (t : State) (l : List QueueEntry) : Prop :=
          t.intake.queue q = l ∧ ∀ p, p ≠ q → t.intake.queue p = s.intake.queue p ∧ t.intake.cursor p = s.intake.cursor p
        (∀ j e en rl, firstAt (s.intake.queue q) QueueEntry.idle j e → s.entryAt e.pos.entry = some en →
          en.reels[e.pos.reel]? = some rl → (∀ k f, (s.intake.queue q)[k]? = some f → f.pos = e.pos → k = j) →
          leaves .sweepVisit s [.intake, .ports, .link] fun t =>
            issued t (.queue q e.pos) (track rl) e.pos.unit ∧ queues t ((s.intake.queue q).set j { e with slot := some i }) ∧
            t.intake.requests = s.intake.requests ∧ t.intake.cursor q = s.intake.cursor q) ∧
        (∀ pos en rl, (∀ e ∈ s.intake.queue q, ¬e.idle) → s.intake.cursor q = some pos → s.entryAt pos.entry = some en →
          en.reels[pos.reel]? = some rl → (s.intake.queue q).length < (if q = .pq then 32 else 64) →
          let added := if q = .pq ∧ pos.unit = 0 then s.addsRequests pos.entry pos.reel rl else []
          s.intake.requests.length + added.length ≤ 8 →
          leaves .sweepVisit s [.intake, .ports, .link] fun t =>
            issued t (.queue q pos) (track rl) pos.unit ∧
            queues t (s.intake.queue q ++ [{ pos := pos, status := .reserved, failures := 0, reread := false, slot := some i }]) ∧
            t.intake.requests = s.intake.requests ++ added ∧ s.comesAfter q pos (t.intake.cursor q))

/-! ### The sample period (chapters 1, 5 and 9) -/

/-- A sample period within a slot: the phase advances while the mode is ADVANCING and the millisecond count always; every gain takes its next
step; each output plays the mix of main and assist sources, with its gaps concealed, through its fader, delay line and switch; and a
measurement takes the magnitude of its channel at SOURCE or OUTPUT (R6, R89, R90, R92, R97, R98, R100, R101, R107, R110). At a delay of
24,000 the output reads the value that the line drops in this period: the model's reading (log entry 8). A fade's end is taken by the next
period at the latest, its choice (log entry 4). Stated for a period that completes no window and no stop fade: the statements of
those do. -/
def Obligations.SamplePeriodPlaysTheMix : Prop :=
  ∀ s : State,
    (s.pwr.state ≠ .active → exec .samplePeriod s = .next s) ∧
    (s.pwr.state = .active → s.composed = true →
      (s.ctl.state = .stopping → ∃ r, s.snd.pause.ramp = some r ∧ ¬(1 ≤ r.step ∧ r.length ≤ r.step)) →
      (s.meter.state = .measuring → s.meter.left ≠ 0) →
      (∀ y ∈ s.snd.outputs, y.phase = .down ∨ y.phase = .up ∨ y.switch.ramp = none) →
      s.tl.mode ≠ .advancing ∨ s.tl.phase + 1 < s.tl.samplesPerFrame →
      leaves .samplePeriod s [.tl, .snd, .meter, .cue, .link] fun t =>
        t.tl = { s.tl with phase := if s.tl.mode = .advancing then s.tl.phase + 1 else s.tl.phase } ∧
        t.cue = { s.cue with msTaken := s.cue.msTaken + 1 } ∧
        t.snd = { s.snd with pause := s.snd.pause.next, outputs := t.snd.outputs } ∧
        t.snd.outputs.length = s.snd.outputs.length ∧
        (∀ o y, s.snd.outputs[o]? = some y →
          let v := s.faderNow o y
          ∃ z, t.snd.outputs[o]? = some z ∧
            z = { y with
              fader := y.fader.next, switch := y.switch.next, phase := y.nextPhase, line := z.line
              out := ((((v :: y.line)[y.delay]?).getD 0) * (y.switch.next.cur : Int) + 8192) / 16384 } ∧
            ∀ k, k < 24000 → (z.line[k]?).getD 0 = ((v :: y.line)[k]?).getD 0) ∧
        (s.meter.state ≠ .measuring → t.meter = s.meter) ∧
        (s.meter.state = .measuring →
          let c := s.meter.channel
          let v : Int := match s.meter.point with
            | .source => s.sourceNow c
            | .output => ((t.snd.outputs[c]?).map Output.out).getD 0
          t.meter = { s.meter with peak := max s.meter.peak v.natAbs, left := s.meter.left - 1 }))

/-- The sample that completes a slot: within an entry the next frame starts, at the count point an entry record not charged yet and its keys
are charged, with the COUNT and KEYS details, and at the end of an entry the next one starts or the show ends COMPLETE (R7 to R10, R17,
R39, R47, R57, R58, R156, R158). -/
def Obligations.SlotEndsChargeAndGoOn : Prop :=
  ∀ (s : State) (e : Entry) (before : List ShowingRecord) (rec : ShowingRecord) (x : EntryRecord), s.endsSlot e →
    s.acct.log = before ++ [rec] → rec.outcome = none → rec.entries[s.tl.entry]? = some x →
    e.keys.Nodup → ((s.keys.places.filterMap id).map KeyRecord.id).Nodup →
    let f := s.tl.frame + 1
    ∃ t, exec .samplePeriod s = .next t ∧ s.changesOnly t
        [.tl, .ctl, .keys, .intake, .pic, .snd, .meter, .subs, .cue, .acct, .caps, .notice, .ports, .link, .freeCount] ∧
      (s.tl.countPoint = some f → x.charged = false →
        (∃ rec' y, t.acct.log = before ++ [rec'] ∧ rec'.entries[s.tl.entry]? = some y ∧ y.charged = true) ∧
        (∀ k, some k ∈ s.keys.places → k.id ∈ e.keys →
          let n := min 65535 (k.charged + 1)
          some { k with charged := n
                        state := if k.allowance = some n ∧ (k.state = .pending ∨ k.state = .valid) then .spent else k.state }
            ∈ t.keys.places) ∧
        (∀ k, some k ∈ s.keys.places → k.id ∉ e.keys → some k ∈ t.keys.places) ∧
        t.acct.count = some
          { number := rec.number, entry := s.tl.entry, entriesCharged := rec.entries.countP EntryRecord.charged + 1
            keysCharged := e.keys.length
            count := min 255 ((if (s.notice.order.any fun y => y.source = .count) then (s.acct.count.map CountDetails.count).getD 0
              else 0) + 1) } ∧
        s.signals t .count ∧ s.reportsKeys t .charge) ∧
      (s.tl.countPoint ≠ some f ∨ x.charged = true →
        t.keys = s.keys ∧ t.acct.count = s.acct.count ∧ s.silent t .count ∧ s.silent t .keys ∧
        ∃ rec' y, t.acct.log = before ++ [rec'] ∧ rec'.entries[s.tl.entry]? = some y ∧ y.charged = x.charged) ∧
      (f < s.tl.total →
        t.ctl = s.ctl ∧ t.tl = { s.tl with frame := f, phase := 0, reel := t.tl.reel } ∧
        (∀ r, r < e.reels.length → 1 ≤ r → ((e.reels.take r).map Reel.duration).sum = f → t.tl.reel = r) ∧
        (e.withinReel f → t.tl.reel = s.tl.reel)) ∧
      (∀ d, f = s.tl.total → s.entryAt (s.tl.entry + 1) = some d →
        t.ctl = s.ctl ∧
        t.tl = { s.tl with entry := s.tl.entry + 1, reel := 0, frame := 0, phase := 0,
                           samplesPerFrame := s.tl.rate.hz / d.editRate, total := d.total, countPoint := d.countPoint } ∧
        t.snd.mainChannels = d.mainChannels ∧ t.snd.assistChannels = d.assistChannels) ∧
      (f = s.tl.total → s.entryAt (s.tl.entry + 1) = none →
        t.ctl = { s.ctl with state := .stopping, outcome := some .complete, pauseTimer := none,
                             event := s.ctl.reporting .stopping .stopping (some .complete) } ∧
        t.tl = { s.tl with mode := .frozen, frame := s.tl.total, phase := 0 } ∧ t.pic.showing = false ∧
        t.intake = s.intake.purged ∧ s.signals t .show ∧
        ∃ rec' y, t.acct.log = before ++ [rec'] ∧ rec'.outcome = none ∧ rec'.entries[s.tl.entry]? = some y ∧
          y.framesPlayed = some s.tl.total)

/-- The slot start that follows the end of a slot takes the frame's units, sends PICTURE or REPEAT, after RATE where the next entry's edit
rate differs, holds the sound units or marks the gaps, counts the defects, offers late takes and gaps, installs a pending map and lets
the outputs that wait take their delay (R10, R68, R76, R77, R81, R82, R87, R88, R98, R100, R104, R157). Which of Picture Output and Sound
Engine takes the slot start first is a free value (log entry 5). -/
def Obligations.SlotStartServesTheFrame : Prop :=
  ∀ (s : State) (e : Entry) (before : List ShowingRecord) (rec : ShowingRecord) (x : EntryRecord), s.endsSlot e →
    s.acct.log = before ++ [rec] → rec.outcome = none → rec.entries[s.tl.entry]? = some x →
    let i := s.tl.entry
    let f := s.tl.frame + 1
    ∃ t, exec .samplePeriod s = .next t ∧ (∃ rec', t.acct.log = before ++ [rec'] ∧ rec'.outcome = none) ∧
      (f < s.tl.total → s.snd.assistChannels = e.assistChannels →
        s.slotBegun t i f e [] s.pic.last (x.pictureDefects, x.soundDefects) ∧ s.offersGaps t i f e) ∧
      (∀ d, f = s.tl.total → s.entryAt (i + 1) = some d → d.sound → rec.entries.length = i + 1 →
        s.slotBegun t (i + 1) 0 d (if d.editRate = e.editRate then [] else [.rate d.editRate]) s.pic.last (0, 0) ∧
        s.offersGaps t (i + 1) 0 d) ∧
      ((f < s.tl.total ∨ (s.entryAt (i + 1)).isSome = true) → ∀ (o : Nat) (y : Output), s.snd.outputs[o]? = some y →
        ∃ z : Output, t.snd.outputs[o]? = some z ∧
          (y.phase = .waiting → z.delay = y.pendingDelay.getD y.delay ∧ z.pendingDelay = none ∧ z.phase = .up ∧
            z.switch = { cur := 0, target := 16384, ramp := some { start := 0, target := 16384, length := s.tl.rate.hz / 200, step := 0 } }) ∧
          (y.phase = .steady ∨ y.phase = .up → z.delay = y.delay ∧ z.pendingDelay = y.pendingDelay))

/-- At a slot start each enabled subtitle track sends its due events, CURRENT's before NEXT's, with a CUT where a region is still occupied,
and marks them; a reel start before it hands the tables over and CURRENT's defects to the open record, and an entry start empties the
regions (R9, R129 to R131, R134, R157). Stated where no cue fires and no request is HELD: those have their own statements. -/
def Obligations.SubtitlesAreSentAtTheirSlot : Prop :=
  ∀ (s : State) (e : Entry) (before : List ShowingRecord) (rec : ShowingRecord) (x : EntryRecord), s.endsSlot e →
    s.acct.log = before ++ [rec] → rec.outcome = none → rec.entries[s.tl.entry]? = some x → x.subtitleDefects ≤ 65535 →
    (∀ r ∈ s.intake.requests, r.status = .awaiting ∨ ∃ n, r.status = .inFlight n) →
    let i := s.tl.entry
    let f := s.tl.frame + 1
    (∀ c ∈ s.cue.live, ¬c.dueAt i e.total f) →
    ∃ t, exec .samplePeriod s = .next t ∧
      let defects (k n : Nat) : Prop := ∃ rec' y, t.acct.log = before ++ [rec'] ∧ rec'.entries[k]? = some y ∧ y.subtitleDefects = n
      (f < s.tl.total → e.withinReel f →
        s.sentFrom t s.subs.main s.subs.assist i f ∧ defects i x.subtitleDefects) ∧
      (∀ r, f < s.tl.total → r < e.reels.length → 1 ≤ r → ((e.reels.take r).map Reel.duration).sum = f →
        s.sentFrom t (s.subs.main.startsReel (i, r)) (s.subs.assist.startsReel (i, r)) i f ∧
        defects i (min 65535 (x.subtitleDefects + s.subs.main.hands (i, r) + s.subs.assist.hands (i, r)))) ∧
      (∀ d, f = s.tl.total → s.entryAt (i + 1) = some d → d.sound → rec.entries.length = i + 1 →
        (∀ c ∈ s.cue.waiting, ¬c.dueAt (i + 1) d.total 0) →
        let empty (y : SubtitleTrack) : SubtitleTrack := { y with regions := y.regions.map fun _ => none }
        let reel := (i + 1, 0)
        s.sentFrom t ((empty s.subs.main).startsReel reel) ((empty s.subs.assist).startsReel reel) (i + 1) 0 ∧
        defects (i + 1) (min 65535 (s.subs.main.hands reel + s.subs.assist.hands reel)))

/-- An enabled cue of the live list fires at the slot start or entry end its position resolves to, one whose line changed its mode is
skipped, and no other cue changes anything; at an entry change the pending list becomes the live one before frame 0 (R14, R42, R139,
R140, R142, R145). Stated for one cue at a time, and for the lines' invariant. The count of the CUE details, since the last reset and
whether or not CUE is pending, is the model's choice (log entry 20). -/
def Obligations.CuesFireAtTheirFrame : Prop :=
  ∀ (s : State) (e : Entry), s.endsSlot e → s.linesKept →
    let i := s.tl.entry
    let f := s.tl.frame + 1
    let u : CueUnit := { s.cue with msTaken := s.cue.msTaken + 1 }
    let entered (y : CueUnit) : CueUnit := { y with live := y.waiting }
    let noneDue (l : List CueRecord) (k total n : Nat) : Prop := ∀ c ∈ l, ¬c.dueAt k total n
    let oneDue (l : List CueRecord) (c : CueRecord) (k total n : Nat) : Prop :=
      c.dueAt k total n ∧ ∃ a b, l = a ++ c :: b ∧ noneDue (a ++ b) k total n
    ∃ t, exec .samplePeriod s = .next t ∧
      (noneDue s.cue.live i e.total f →
        (f < s.tl.total → t.cue = u) ∧
        (f = s.tl.total → s.entryAt (i + 1) = none → t.cue = u) ∧
        ∀ d, f = s.tl.total → s.entryAt (i + 1) = some d → d.sound →
          (noneDue s.cue.waiting (i + 1) d.total 0 → t.cue = entered u) ∧
          ∀ c, oneDue s.cue.waiting c (i + 1) d.total 0 → (∀ tr on, c.action ≠ .subtitle tr on) → s.fires t c 0 (entered u) t.cue) ∧
      ∀ c, oneDue s.cue.live c i e.total f →
        (f < s.tl.total → (∀ tr on, c.action = .subtitle tr on → e.withinReel f ∧
          ∀ r ∈ s.intake.requests, r.status = .awaiting ∨ ∃ n, r.status = .inFlight n) → s.fires t c f u t.cue) ∧
        (∀ d, f = s.tl.total → s.entryAt (i + 1) = some d → d.sound → noneDue s.cue.waiting (i + 1) d.total 0 →
          (∀ tr on, c.action ≠ .subtitle tr on) → ∃ y, s.fires t c f u y ∧ t.cue = entered y) ∧
        (f = s.tl.total → s.entryAt (i + 1) = none → (∀ tr on, c.action ≠ .subtitle tr on) → c.action ≠ .meter → s.fires t c f u t.cue)
end

