-- ==== Sys2Proof/Laws/State.lean ====
section
/-!
SUPPORT. One lemma for each field under each setter, and the frame of each setter, so that no proof unfolds a record update.
-/
namespace Sys2Proof.Machine

/-! ### `setTl` -/

@[simp] theorem State.setTl_pending (s : State) (b : Timeline) : (s.setTl b).pending = s.pending := rfl
@[simp] theorem State.setTl_tl (s : State) (b : Timeline) : (s.setTl b).tl = b := rfl
@[simp] theorem State.setTl_ctl (s : State) (b : Timeline) : (s.setTl b).ctl = s.ctl := rfl
@[simp] theorem State.setTl_keys (s : State) (b : Timeline) : (s.setTl b).keys = s.keys := rfl
@[simp] theorem State.setTl_intake (s : State) (b : Timeline) : (s.setTl b).intake = s.intake := rfl
@[simp] theorem State.setTl_pic (s : State) (b : Timeline) : (s.setTl b).pic = s.pic := rfl
@[simp] theorem State.setTl_snd (s : State) (b : Timeline) : (s.setTl b).snd = s.snd := rfl
@[simp] theorem State.setTl_meter (s : State) (b : Timeline) : (s.setTl b).meter = s.meter := rfl
@[simp] theorem State.setTl_subs (s : State) (b : Timeline) : (s.setTl b).subs = s.subs := rfl
@[simp] theorem State.setTl_cue (s : State) (b : Timeline) : (s.setTl b).cue = s.cue := rfl
@[simp] theorem State.setTl_acct (s : State) (b : Timeline) : (s.setTl b).acct = s.acct := rfl
@[simp] theorem State.setTl_caps (s : State) (b : Timeline) : (s.setTl b).caps = s.caps := rfl
@[simp] theorem State.setTl_notice (s : State) (b : Timeline) : (s.setTl b).notice = s.notice := rfl
@[simp] theorem State.setTl_pwr (s : State) (b : Timeline) : (s.setTl b).pwr = s.pwr := rfl
@[simp] theorem State.setTl_link (s : State) (b : Timeline) : (s.setTl b).link = s.link := rfl
@[simp] theorem State.setTl_ports (s : State) (b : Timeline) : (s.setTl b).ports = s.ports := rfl
@[simp] theorem State.setTl_freeCount (s : State) (b : Timeline) : (s.setTl b).freeCount = s.freeCount := rfl
theorem State.setTl_frame (s : State) (b : Timeline) : s.changesOnly (s.setTl b) [.tl] := by
  intro c hc; cases c <;> first | rfl | simp at hc

/-! ### `setCtl` -/

@[simp] theorem State.setCtl_pending (s : State) (b : ShowControl) : (s.setCtl b).pending = s.pending := rfl
@[simp] theorem State.setCtl_tl (s : State) (b : ShowControl) : (s.setCtl b).tl = s.tl := rfl
@[simp] theorem State.setCtl_ctl (s : State) (b : ShowControl) : (s.setCtl b).ctl = b := rfl
@[simp] theorem State.setCtl_keys (s : State) (b : ShowControl) : (s.setCtl b).keys = s.keys := rfl
@[simp] theorem State.setCtl_intake (s : State) (b : ShowControl) : (s.setCtl b).intake = s.intake := rfl
@[simp] theorem State.setCtl_pic (s : State) (b : ShowControl) : (s.setCtl b).pic = s.pic := rfl
@[simp] theorem State.setCtl_snd (s : State) (b : ShowControl) : (s.setCtl b).snd = s.snd := rfl
@[simp] theorem State.setCtl_meter (s : State) (b : ShowControl) : (s.setCtl b).meter = s.meter := rfl
@[simp] theorem State.setCtl_subs (s : State) (b : ShowControl) : (s.setCtl b).subs = s.subs := rfl
@[simp] theorem State.setCtl_cue (s : State) (b : ShowControl) : (s.setCtl b).cue = s.cue := rfl
@[simp] theorem State.setCtl_acct (s : State) (b : ShowControl) : (s.setCtl b).acct = s.acct := rfl
@[simp] theorem State.setCtl_caps (s : State) (b : ShowControl) : (s.setCtl b).caps = s.caps := rfl
@[simp] theorem State.setCtl_notice (s : State) (b : ShowControl) : (s.setCtl b).notice = s.notice := rfl
@[simp] theorem State.setCtl_pwr (s : State) (b : ShowControl) : (s.setCtl b).pwr = s.pwr := rfl
@[simp] theorem State.setCtl_link (s : State) (b : ShowControl) : (s.setCtl b).link = s.link := rfl
@[simp] theorem State.setCtl_ports (s : State) (b : ShowControl) : (s.setCtl b).ports = s.ports := rfl
@[simp] theorem State.setCtl_freeCount (s : State) (b : ShowControl) : (s.setCtl b).freeCount = s.freeCount := rfl
theorem State.setCtl_frame (s : State) (b : ShowControl) : s.changesOnly (s.setCtl b) [.ctl] := by
  intro c hc; cases c <;> first | rfl | simp at hc

/-! ### `setKeys` -/

@[simp] theorem State.setKeys_pending (s : State) (b : KeyTable) : (s.setKeys b).pending = s.pending := rfl
@[simp] theorem State.setKeys_tl (s : State) (b : KeyTable) : (s.setKeys b).tl = s.tl := rfl
@[simp] theorem State.setKeys_ctl (s : State) (b : KeyTable) : (s.setKeys b).ctl = s.ctl := rfl
@[simp] theorem State.setKeys_keys (s : State) (b : KeyTable) : (s.setKeys b).keys = b := rfl
@[simp] theorem State.setKeys_intake (s : State) (b : KeyTable) : (s.setKeys b).intake = s.intake := rfl
@[simp] theorem State.setKeys_pic (s : State) (b : KeyTable) : (s.setKeys b).pic = s.pic := rfl
@[simp] theorem State.setKeys_snd (s : State) (b : KeyTable) : (s.setKeys b).snd = s.snd := rfl
@[simp] theorem State.setKeys_meter (s : State) (b : KeyTable) : (s.setKeys b).meter = s.meter := rfl
@[simp] theorem State.setKeys_subs (s : State) (b : KeyTable) : (s.setKeys b).subs = s.subs := rfl
@[simp] theorem State.setKeys_cue (s : State) (b : KeyTable) : (s.setKeys b).cue = s.cue := rfl
@[simp] theorem State.setKeys_acct (s : State) (b : KeyTable) : (s.setKeys b).acct = s.acct := rfl
@[simp] theorem State.setKeys_caps (s : State) (b : KeyTable) : (s.setKeys b).caps = s.caps := rfl
@[simp] theorem State.setKeys_notice (s : State) (b : KeyTable) : (s.setKeys b).notice = s.notice := rfl
@[simp] theorem State.setKeys_pwr (s : State) (b : KeyTable) : (s.setKeys b).pwr = s.pwr := rfl
@[simp] theorem State.setKeys_link (s : State) (b : KeyTable) : (s.setKeys b).link = s.link := rfl
@[simp] theorem State.setKeys_ports (s : State) (b : KeyTable) : (s.setKeys b).ports = s.ports := rfl
@[simp] theorem State.setKeys_freeCount (s : State) (b : KeyTable) : (s.setKeys b).freeCount = s.freeCount := rfl
theorem State.setKeys_frame (s : State) (b : KeyTable) : s.changesOnly (s.setKeys b) [.keys] := by
  intro c hc; cases c <;> first | rfl | simp at hc

/-! ### `setIntake` -/

@[simp] theorem State.setIntake_pending (s : State) (b : Intake) : (s.setIntake b).pending = s.pending := rfl
@[simp] theorem State.setIntake_tl (s : State) (b : Intake) : (s.setIntake b).tl = s.tl := rfl
@[simp] theorem State.setIntake_ctl (s : State) (b : Intake) : (s.setIntake b).ctl = s.ctl := rfl
@[simp] theorem State.setIntake_keys (s : State) (b : Intake) : (s.setIntake b).keys = s.keys := rfl
@[simp] theorem State.setIntake_intake (s : State) (b : Intake) : (s.setIntake b).intake = b := rfl
@[simp] theorem State.setIntake_pic (s : State) (b : Intake) : (s.setIntake b).pic = s.pic := rfl
@[simp] theorem State.setIntake_snd (s : State) (b : Intake) : (s.setIntake b).snd = s.snd := rfl
@[simp] theorem State.setIntake_meter (s : State) (b : Intake) : (s.setIntake b).meter = s.meter := rfl
@[simp] theorem State.setIntake_subs (s : State) (b : Intake) : (s.setIntake b).subs = s.subs := rfl
@[simp] theorem State.setIntake_cue (s : State) (b : Intake) : (s.setIntake b).cue = s.cue := rfl
@[simp] theorem State.setIntake_acct (s : State) (b : Intake) : (s.setIntake b).acct = s.acct := rfl
@[simp] theorem State.setIntake_caps (s : State) (b : Intake) : (s.setIntake b).caps = s.caps := rfl
@[simp] theorem State.setIntake_notice (s : State) (b : Intake) : (s.setIntake b).notice = s.notice := rfl
@[simp] theorem State.setIntake_pwr (s : State) (b : Intake) : (s.setIntake b).pwr = s.pwr := rfl
@[simp] theorem State.setIntake_link (s : State) (b : Intake) : (s.setIntake b).link = s.link := rfl
@[simp] theorem State.setIntake_ports (s : State) (b : Intake) : (s.setIntake b).ports = s.ports := rfl
@[simp] theorem State.setIntake_freeCount (s : State) (b : Intake) : (s.setIntake b).freeCount = s.freeCount := rfl
theorem State.setIntake_frame (s : State) (b : Intake) : s.changesOnly (s.setIntake b) [.intake] := by
  intro c hc; cases c <;> first | rfl | simp at hc

/-! ### `setPic` -/

@[simp] theorem State.setPic_pending (s : State) (b : Picture) : (s.setPic b).pending = s.pending := rfl
@[simp] theorem State.setPic_tl (s : State) (b : Picture) : (s.setPic b).tl = s.tl := rfl
@[simp] theorem State.setPic_ctl (s : State) (b : Picture) : (s.setPic b).ctl = s.ctl := rfl
@[simp] theorem State.setPic_keys (s : State) (b : Picture) : (s.setPic b).keys = s.keys := rfl
@[simp] theorem State.setPic_intake (s : State) (b : Picture) : (s.setPic b).intake = s.intake := rfl
@[simp] theorem State.setPic_pic (s : State) (b : Picture) : (s.setPic b).pic = b := rfl
@[simp] theorem State.setPic_snd (s : State) (b : Picture) : (s.setPic b).snd = s.snd := rfl
@[simp] theorem State.setPic_meter (s : State) (b : Picture) : (s.setPic b).meter = s.meter := rfl
@[simp] theorem State.setPic_subs (s : State) (b : Picture) : (s.setPic b).subs = s.subs := rfl
@[simp] theorem State.setPic_cue (s : State) (b : Picture) : (s.setPic b).cue = s.cue := rfl
@[simp] theorem State.setPic_acct (s : State) (b : Picture) : (s.setPic b).acct = s.acct := rfl
@[simp] theorem State.setPic_caps (s : State) (b : Picture) : (s.setPic b).caps = s.caps := rfl
@[simp] theorem State.setPic_notice (s : State) (b : Picture) : (s.setPic b).notice = s.notice := rfl
@[simp] theorem State.setPic_pwr (s : State) (b : Picture) : (s.setPic b).pwr = s.pwr := rfl
@[simp] theorem State.setPic_link (s : State) (b : Picture) : (s.setPic b).link = s.link := rfl
@[simp] theorem State.setPic_ports (s : State) (b : Picture) : (s.setPic b).ports = s.ports := rfl
@[simp] theorem State.setPic_freeCount (s : State) (b : Picture) : (s.setPic b).freeCount = s.freeCount := rfl
theorem State.setPic_frame (s : State) (b : Picture) : s.changesOnly (s.setPic b) [.pic] := by
  intro c hc; cases c <;> first | rfl | simp at hc

/-! ### `setSnd` -/

@[simp] theorem State.setSnd_pending (s : State) (b : Sound) : (s.setSnd b).pending = s.pending := rfl
@[simp] theorem State.setSnd_tl (s : State) (b : Sound) : (s.setSnd b).tl = s.tl := rfl
@[simp] theorem State.setSnd_ctl (s : State) (b : Sound) : (s.setSnd b).ctl = s.ctl := rfl
@[simp] theorem State.setSnd_keys (s : State) (b : Sound) : (s.setSnd b).keys = s.keys := rfl
@[simp] theorem State.setSnd_intake (s : State) (b : Sound) : (s.setSnd b).intake = s.intake := rfl
@[simp] theorem State.setSnd_pic (s : State) (b : Sound) : (s.setSnd b).pic = s.pic := rfl
@[simp] theorem State.setSnd_snd (s : State) (b : Sound) : (s.setSnd b).snd = b := rfl
@[simp] theorem State.setSnd_meter (s : State) (b : Sound) : (s.setSnd b).meter = s.meter := rfl
@[simp] theorem State.setSnd_subs (s : State) (b : Sound) : (s.setSnd b).subs = s.subs := rfl
@[simp] theorem State.setSnd_cue (s : State) (b : Sound) : (s.setSnd b).cue = s.cue := rfl
@[simp] theorem State.setSnd_acct (s : State) (b : Sound) : (s.setSnd b).acct = s.acct := rfl
@[simp] theorem State.setSnd_caps (s : State) (b : Sound) : (s.setSnd b).caps = s.caps := rfl
@[simp] theorem State.setSnd_notice (s : State) (b : Sound) : (s.setSnd b).notice = s.notice := rfl
@[simp] theorem State.setSnd_pwr (s : State) (b : Sound) : (s.setSnd b).pwr = s.pwr := rfl
@[simp] theorem State.setSnd_link (s : State) (b : Sound) : (s.setSnd b).link = s.link := rfl
@[simp] theorem State.setSnd_ports (s : State) (b : Sound) : (s.setSnd b).ports = s.ports := rfl
@[simp] theorem State.setSnd_freeCount (s : State) (b : Sound) : (s.setSnd b).freeCount = s.freeCount := rfl
theorem State.setSnd_frame (s : State) (b : Sound) : s.changesOnly (s.setSnd b) [.snd] := by
  intro c hc; cases c <;> first | rfl | simp at hc

/-! ### `setMeter` -/

@[simp] theorem State.setMeter_pending (s : State) (b : Meter) : (s.setMeter b).pending = s.pending := rfl
@[simp] theorem State.setMeter_tl (s : State) (b : Meter) : (s.setMeter b).tl = s.tl := rfl
@[simp] theorem State.setMeter_ctl (s : State) (b : Meter) : (s.setMeter b).ctl = s.ctl := rfl
@[simp] theorem State.setMeter_keys (s : State) (b : Meter) : (s.setMeter b).keys = s.keys := rfl
@[simp] theorem State.setMeter_intake (s : State) (b : Meter) : (s.setMeter b).intake = s.intake := rfl
@[simp] theorem State.setMeter_pic (s : State) (b : Meter) : (s.setMeter b).pic = s.pic := rfl
@[simp] theorem State.setMeter_snd (s : State) (b : Meter) : (s.setMeter b).snd = s.snd := rfl
@[simp] theorem State.setMeter_meter (s : State) (b : Meter) : (s.setMeter b).meter = b := rfl
@[simp] theorem State.setMeter_subs (s : State) (b : Meter) : (s.setMeter b).subs = s.subs := rfl
@[simp] theorem State.setMeter_cue (s : State) (b : Meter) : (s.setMeter b).cue = s.cue := rfl
@[simp] theorem State.setMeter_acct (s : State) (b : Meter) : (s.setMeter b).acct = s.acct := rfl
@[simp] theorem State.setMeter_caps (s : State) (b : Meter) : (s.setMeter b).caps = s.caps := rfl
@[simp] theorem State.setMeter_notice (s : State) (b : Meter) : (s.setMeter b).notice = s.notice := rfl
@[simp] theorem State.setMeter_pwr (s : State) (b : Meter) : (s.setMeter b).pwr = s.pwr := rfl
@[simp] theorem State.setMeter_link (s : State) (b : Meter) : (s.setMeter b).link = s.link := rfl
@[simp] theorem State.setMeter_ports (s : State) (b : Meter) : (s.setMeter b).ports = s.ports := rfl
@[simp] theorem State.setMeter_freeCount (s : State) (b : Meter) : (s.setMeter b).freeCount = s.freeCount := rfl
theorem State.setMeter_frame (s : State) (b : Meter) : s.changesOnly (s.setMeter b) [.meter] := by
  intro c hc; cases c <;> first | rfl | simp at hc

/-! ### `setSubs` -/

@[simp] theorem State.setSubs_pending (s : State) (b : Subtitles) : (s.setSubs b).pending = s.pending := rfl
@[simp] theorem State.setSubs_tl (s : State) (b : Subtitles) : (s.setSubs b).tl = s.tl := rfl
@[simp] theorem State.setSubs_ctl (s : State) (b : Subtitles) : (s.setSubs b).ctl = s.ctl := rfl
@[simp] theorem State.setSubs_keys (s : State) (b : Subtitles) : (s.setSubs b).keys = s.keys := rfl
@[simp] theorem State.setSubs_intake (s : State) (b : Subtitles) : (s.setSubs b).intake = s.intake := rfl
@[simp] theorem State.setSubs_pic (s : State) (b : Subtitles) : (s.setSubs b).pic = s.pic := rfl
@[simp] theorem State.setSubs_snd (s : State) (b : Subtitles) : (s.setSubs b).snd = s.snd := rfl
@[simp] theorem State.setSubs_meter (s : State) (b : Subtitles) : (s.setSubs b).meter = s.meter := rfl
@[simp] theorem State.setSubs_subs (s : State) (b : Subtitles) : (s.setSubs b).subs = b := rfl
@[simp] theorem State.setSubs_cue (s : State) (b : Subtitles) : (s.setSubs b).cue = s.cue := rfl
@[simp] theorem State.setSubs_acct (s : State) (b : Subtitles) : (s.setSubs b).acct = s.acct := rfl
@[simp] theorem State.setSubs_caps (s : State) (b : Subtitles) : (s.setSubs b).caps = s.caps := rfl
@[simp] theorem State.setSubs_notice (s : State) (b : Subtitles) : (s.setSubs b).notice = s.notice := rfl
@[simp] theorem State.setSubs_pwr (s : State) (b : Subtitles) : (s.setSubs b).pwr = s.pwr := rfl
@[simp] theorem State.setSubs_link (s : State) (b : Subtitles) : (s.setSubs b).link = s.link := rfl
@[simp] theorem State.setSubs_ports (s : State) (b : Subtitles) : (s.setSubs b).ports = s.ports := rfl
@[simp] theorem State.setSubs_freeCount (s : State) (b : Subtitles) : (s.setSubs b).freeCount = s.freeCount := rfl
theorem State.setSubs_frame (s : State) (b : Subtitles) : s.changesOnly (s.setSubs b) [.subs] := by
  intro c hc; cases c <;> first | rfl | simp at hc

/-! ### `setCue` -/

@[simp] theorem State.setCue_pending (s : State) (b : CueUnit) : (s.setCue b).pending = s.pending := rfl
@[simp] theorem State.setCue_tl (s : State) (b : CueUnit) : (s.setCue b).tl = s.tl := rfl
@[simp] theorem State.setCue_ctl (s : State) (b : CueUnit) : (s.setCue b).ctl = s.ctl := rfl
@[simp] theorem State.setCue_keys (s : State) (b : CueUnit) : (s.setCue b).keys = s.keys := rfl
@[simp] theorem State.setCue_intake (s : State) (b : CueUnit) : (s.setCue b).intake = s.intake := rfl
@[simp] theorem State.setCue_pic (s : State) (b : CueUnit) : (s.setCue b).pic = s.pic := rfl
@[simp] theorem State.setCue_snd (s : State) (b : CueUnit) : (s.setCue b).snd = s.snd := rfl
@[simp] theorem State.setCue_meter (s : State) (b : CueUnit) : (s.setCue b).meter = s.meter := rfl
@[simp] theorem State.setCue_subs (s : State) (b : CueUnit) : (s.setCue b).subs = s.subs := rfl
@[simp] theorem State.setCue_cue (s : State) (b : CueUnit) : (s.setCue b).cue = b := rfl
@[simp] theorem State.setCue_acct (s : State) (b : CueUnit) : (s.setCue b).acct = s.acct := rfl
@[simp] theorem State.setCue_caps (s : State) (b : CueUnit) : (s.setCue b).caps = s.caps := rfl
@[simp] theorem State.setCue_notice (s : State) (b : CueUnit) : (s.setCue b).notice = s.notice := rfl
@[simp] theorem State.setCue_pwr (s : State) (b : CueUnit) : (s.setCue b).pwr = s.pwr := rfl
@[simp] theorem State.setCue_link (s : State) (b : CueUnit) : (s.setCue b).link = s.link := rfl
@[simp] theorem State.setCue_ports (s : State) (b : CueUnit) : (s.setCue b).ports = s.ports := rfl
@[simp] theorem State.setCue_freeCount (s : State) (b : CueUnit) : (s.setCue b).freeCount = s.freeCount := rfl
theorem State.setCue_frame (s : State) (b : CueUnit) : s.changesOnly (s.setCue b) [.cue] := by
  intro c hc; cases c <;> first | rfl | simp at hc

/-! ### `setAcct` -/

@[simp] theorem State.setAcct_pending (s : State) (b : Accounting) : (s.setAcct b).pending = s.pending := rfl
@[simp] theorem State.setAcct_tl (s : State) (b : Accounting) : (s.setAcct b).tl = s.tl := rfl
@[simp] theorem State.setAcct_ctl (s : State) (b : Accounting) : (s.setAcct b).ctl = s.ctl := rfl
@[simp] theorem State.setAcct_keys (s : State) (b : Accounting) : (s.setAcct b).keys = s.keys := rfl
@[simp] theorem State.setAcct_intake (s : State) (b : Accounting) : (s.setAcct b).intake = s.intake := rfl
@[simp] theorem State.setAcct_pic (s : State) (b : Accounting) : (s.setAcct b).pic = s.pic := rfl
@[simp] theorem State.setAcct_snd (s : State) (b : Accounting) : (s.setAcct b).snd = s.snd := rfl
@[simp] theorem State.setAcct_meter (s : State) (b : Accounting) : (s.setAcct b).meter = s.meter := rfl
@[simp] theorem State.setAcct_subs (s : State) (b : Accounting) : (s.setAcct b).subs = s.subs := rfl
@[simp] theorem State.setAcct_cue (s : State) (b : Accounting) : (s.setAcct b).cue = s.cue := rfl
@[simp] theorem State.setAcct_acct (s : State) (b : Accounting) : (s.setAcct b).acct = b := rfl
@[simp] theorem State.setAcct_caps (s : State) (b : Accounting) : (s.setAcct b).caps = s.caps := rfl
@[simp] theorem State.setAcct_notice (s : State) (b : Accounting) : (s.setAcct b).notice = s.notice := rfl
@[simp] theorem State.setAcct_pwr (s : State) (b : Accounting) : (s.setAcct b).pwr = s.pwr := rfl
@[simp] theorem State.setAcct_link (s : State) (b : Accounting) : (s.setAcct b).link = s.link := rfl
@[simp] theorem State.setAcct_ports (s : State) (b : Accounting) : (s.setAcct b).ports = s.ports := rfl
@[simp] theorem State.setAcct_freeCount (s : State) (b : Accounting) : (s.setAcct b).freeCount = s.freeCount := rfl
theorem State.setAcct_frame (s : State) (b : Accounting) : s.changesOnly (s.setAcct b) [.acct] := by
  intro c hc; cases c <;> first | rfl | simp at hc

/-! ### `setCaps` -/

@[simp] theorem State.setCaps_pending (s : State) (b : Captures) : (s.setCaps b).pending = s.pending := rfl
@[simp] theorem State.setCaps_tl (s : State) (b : Captures) : (s.setCaps b).tl = s.tl := rfl
@[simp] theorem State.setCaps_ctl (s : State) (b : Captures) : (s.setCaps b).ctl = s.ctl := rfl
@[simp] theorem State.setCaps_keys (s : State) (b : Captures) : (s.setCaps b).keys = s.keys := rfl
@[simp] theorem State.setCaps_intake (s : State) (b : Captures) : (s.setCaps b).intake = s.intake := rfl
@[simp] theorem State.setCaps_pic (s : State) (b : Captures) : (s.setCaps b).pic = s.pic := rfl
@[simp] theorem State.setCaps_snd (s : State) (b : Captures) : (s.setCaps b).snd = s.snd := rfl
@[simp] theorem State.setCaps_meter (s : State) (b : Captures) : (s.setCaps b).meter = s.meter := rfl
@[simp] theorem State.setCaps_subs (s : State) (b : Captures) : (s.setCaps b).subs = s.subs := rfl
@[simp] theorem State.setCaps_cue (s : State) (b : Captures) : (s.setCaps b).cue = s.cue := rfl
@[simp] theorem State.setCaps_acct (s : State) (b : Captures) : (s.setCaps b).acct = s.acct := rfl
@[simp] theorem State.setCaps_caps (s : State) (b : Captures) : (s.setCaps b).caps = b := rfl
@[simp] theorem State.setCaps_notice (s : State) (b : Captures) : (s.setCaps b).notice = s.notice := rfl
@[simp] theorem State.setCaps_pwr (s : State) (b : Captures) : (s.setCaps b).pwr = s.pwr := rfl
@[simp] theorem State.setCaps_link (s : State) (b : Captures) : (s.setCaps b).link = s.link := rfl
@[simp] theorem State.setCaps_ports (s : State) (b : Captures) : (s.setCaps b).ports = s.ports := rfl
@[simp] theorem State.setCaps_freeCount (s : State) (b : Captures) : (s.setCaps b).freeCount = s.freeCount := rfl
theorem State.setCaps_frame (s : State) (b : Captures) : s.changesOnly (s.setCaps b) [.caps] := by
  intro c hc; cases c <;> first | rfl | simp at hc

/-! ### `setNotice` -/

@[simp] theorem State.setNotice_pending (s : State) (b : Notices) : (s.setNotice b).pending = s.pending := rfl
@[simp] theorem State.setNotice_tl (s : State) (b : Notices) : (s.setNotice b).tl = s.tl := rfl
@[simp] theorem State.setNotice_ctl (s : State) (b : Notices) : (s.setNotice b).ctl = s.ctl := rfl
@[simp] theorem State.setNotice_keys (s : State) (b : Notices) : (s.setNotice b).keys = s.keys := rfl
@[simp] theorem State.setNotice_intake (s : State) (b : Notices) : (s.setNotice b).intake = s.intake := rfl
@[simp] theorem State.setNotice_pic (s : State) (b : Notices) : (s.setNotice b).pic = s.pic := rfl
@[simp] theorem State.setNotice_snd (s : State) (b : Notices) : (s.setNotice b).snd = s.snd := rfl
@[simp] theorem State.setNotice_meter (s : State) (b : Notices) : (s.setNotice b).meter = s.meter := rfl
@[simp] theorem State.setNotice_subs (s : State) (b : Notices) : (s.setNotice b).subs = s.subs := rfl
@[simp] theorem State.setNotice_cue (s : State) (b : Notices) : (s.setNotice b).cue = s.cue := rfl
@[simp] theorem State.setNotice_acct (s : State) (b : Notices) : (s.setNotice b).acct = s.acct := rfl
@[simp] theorem State.setNotice_caps (s : State) (b : Notices) : (s.setNotice b).caps = s.caps := rfl
@[simp] theorem State.setNotice_notice (s : State) (b : Notices) : (s.setNotice b).notice = b := rfl
@[simp] theorem State.setNotice_pwr (s : State) (b : Notices) : (s.setNotice b).pwr = s.pwr := rfl
@[simp] theorem State.setNotice_link (s : State) (b : Notices) : (s.setNotice b).link = s.link := rfl
@[simp] theorem State.setNotice_ports (s : State) (b : Notices) : (s.setNotice b).ports = s.ports := rfl
@[simp] theorem State.setNotice_freeCount (s : State) (b : Notices) : (s.setNotice b).freeCount = s.freeCount := rfl
theorem State.setNotice_frame (s : State) (b : Notices) : s.changesOnly (s.setNotice b) [.notice] := by
  intro c hc; cases c <;> first | rfl | simp at hc

/-! ### `setPwr` -/

@[simp] theorem State.setPwr_pending (s : State) (b : Power) : (s.setPwr b).pending = s.pending := rfl
@[simp] theorem State.setPwr_tl (s : State) (b : Power) : (s.setPwr b).tl = s.tl := rfl
@[simp] theorem State.setPwr_ctl (s : State) (b : Power) : (s.setPwr b).ctl = s.ctl := rfl
@[simp] theorem State.setPwr_keys (s : State) (b : Power) : (s.setPwr b).keys = s.keys := rfl
@[simp] theorem State.setPwr_intake (s : State) (b : Power) : (s.setPwr b).intake = s.intake := rfl
@[simp] theorem State.setPwr_pic (s : State) (b : Power) : (s.setPwr b).pic = s.pic := rfl
@[simp] theorem State.setPwr_snd (s : State) (b : Power) : (s.setPwr b).snd = s.snd := rfl
@[simp] theorem State.setPwr_meter (s : State) (b : Power) : (s.setPwr b).meter = s.meter := rfl
@[simp] theorem State.setPwr_subs (s : State) (b : Power) : (s.setPwr b).subs = s.subs := rfl
@[simp] theorem State.setPwr_cue (s : State) (b : Power) : (s.setPwr b).cue = s.cue := rfl
@[simp] theorem State.setPwr_acct (s : State) (b : Power) : (s.setPwr b).acct = s.acct := rfl
@[simp] theorem State.setPwr_caps (s : State) (b : Power) : (s.setPwr b).caps = s.caps := rfl
@[simp] theorem State.setPwr_notice (s : State) (b : Power) : (s.setPwr b).notice = s.notice := rfl
@[simp] theorem State.setPwr_pwr (s : State) (b : Power) : (s.setPwr b).pwr = b := rfl
@[simp] theorem State.setPwr_link (s : State) (b : Power) : (s.setPwr b).link = s.link := rfl
@[simp] theorem State.setPwr_ports (s : State) (b : Power) : (s.setPwr b).ports = s.ports := rfl
@[simp] theorem State.setPwr_freeCount (s : State) (b : Power) : (s.setPwr b).freeCount = s.freeCount := rfl
theorem State.setPwr_frame (s : State) (b : Power) : s.changesOnly (s.setPwr b) [.pwr] := by
  intro c hc; cases c <;> first | rfl | simp at hc

/-! ### `setLink` -/

@[simp] theorem State.setLink_pending (s : State) (b : Link) : (s.setLink b).pending = s.pending := rfl
@[simp] theorem State.setLink_tl (s : State) (b : Link) : (s.setLink b).tl = s.tl := rfl
@[simp] theorem State.setLink_ctl (s : State) (b : Link) : (s.setLink b).ctl = s.ctl := rfl
@[simp] theorem State.setLink_keys (s : State) (b : Link) : (s.setLink b).keys = s.keys := rfl
@[simp] theorem State.setLink_intake (s : State) (b : Link) : (s.setLink b).intake = s.intake := rfl
@[simp] theorem State.setLink_pic (s : State) (b : Link) : (s.setLink b).pic = s.pic := rfl
@[simp] theorem State.setLink_snd (s : State) (b : Link) : (s.setLink b).snd = s.snd := rfl
@[simp] theorem State.setLink_meter (s : State) (b : Link) : (s.setLink b).meter = s.meter := rfl
@[simp] theorem State.setLink_subs (s : State) (b : Link) : (s.setLink b).subs = s.subs := rfl
@[simp] theorem State.setLink_cue (s : State) (b : Link) : (s.setLink b).cue = s.cue := rfl
@[simp] theorem State.setLink_acct (s : State) (b : Link) : (s.setLink b).acct = s.acct := rfl
@[simp] theorem State.setLink_caps (s : State) (b : Link) : (s.setLink b).caps = s.caps := rfl
@[simp] theorem State.setLink_notice (s : State) (b : Link) : (s.setLink b).notice = s.notice := rfl
@[simp] theorem State.setLink_pwr (s : State) (b : Link) : (s.setLink b).pwr = s.pwr := rfl
@[simp] theorem State.setLink_link (s : State) (b : Link) : (s.setLink b).link = b := rfl
@[simp] theorem State.setLink_ports (s : State) (b : Link) : (s.setLink b).ports = s.ports := rfl
@[simp] theorem State.setLink_freeCount (s : State) (b : Link) : (s.setLink b).freeCount = s.freeCount := rfl
theorem State.setLink_frame (s : State) (b : Link) : s.changesOnly (s.setLink b) [.link] := by
  intro c hc; cases c <;> first | rfl | simp at hc

/-! ### `setPorts` -/

@[simp] theorem State.setPorts_pending (s : State) (b : Ports) : (s.setPorts b).pending = s.pending := rfl
@[simp] theorem State.setPorts_tl (s : State) (b : Ports) : (s.setPorts b).tl = s.tl := rfl
@[simp] theorem State.setPorts_ctl (s : State) (b : Ports) : (s.setPorts b).ctl = s.ctl := rfl
@[simp] theorem State.setPorts_keys (s : State) (b : Ports) : (s.setPorts b).keys = s.keys := rfl
@[simp] theorem State.setPorts_intake (s : State) (b : Ports) : (s.setPorts b).intake = s.intake := rfl
@[simp] theorem State.setPorts_pic (s : State) (b : Ports) : (s.setPorts b).pic = s.pic := rfl
@[simp] theorem State.setPorts_snd (s : State) (b : Ports) : (s.setPorts b).snd = s.snd := rfl
@[simp] theorem State.setPorts_meter (s : State) (b : Ports) : (s.setPorts b).meter = s.meter := rfl
@[simp] theorem State.setPorts_subs (s : State) (b : Ports) : (s.setPorts b).subs = s.subs := rfl
@[simp] theorem State.setPorts_cue (s : State) (b : Ports) : (s.setPorts b).cue = s.cue := rfl
@[simp] theorem State.setPorts_acct (s : State) (b : Ports) : (s.setPorts b).acct = s.acct := rfl
@[simp] theorem State.setPorts_caps (s : State) (b : Ports) : (s.setPorts b).caps = s.caps := rfl
@[simp] theorem State.setPorts_notice (s : State) (b : Ports) : (s.setPorts b).notice = s.notice := rfl
@[simp] theorem State.setPorts_pwr (s : State) (b : Ports) : (s.setPorts b).pwr = s.pwr := rfl
@[simp] theorem State.setPorts_link (s : State) (b : Ports) : (s.setPorts b).link = s.link := rfl
@[simp] theorem State.setPorts_ports (s : State) (b : Ports) : (s.setPorts b).ports = b := rfl
@[simp] theorem State.setPorts_freeCount (s : State) (b : Ports) : (s.setPorts b).freeCount = s.freeCount := rfl
theorem State.setPorts_frame (s : State) (b : Ports) : s.changesOnly (s.setPorts b) [.ports] := by
  intro c hc; cases c <;> first | rfl | simp at hc

/-! ### `setFree` -/

@[simp] theorem State.setFree_pending (s : State) (b : Nat) : (s.setFree b).pending = s.pending := rfl
@[simp] theorem State.setFree_tl (s : State) (b : Nat) : (s.setFree b).tl = s.tl := rfl
@[simp] theorem State.setFree_ctl (s : State) (b : Nat) : (s.setFree b).ctl = s.ctl := rfl
@[simp] theorem State.setFree_keys (s : State) (b : Nat) : (s.setFree b).keys = s.keys := rfl
@[simp] theorem State.setFree_intake (s : State) (b : Nat) : (s.setFree b).intake = s.intake := rfl
@[simp] theorem State.setFree_pic (s : State) (b : Nat) : (s.setFree b).pic = s.pic := rfl
@[simp] theorem State.setFree_snd (s : State) (b : Nat) : (s.setFree b).snd = s.snd := rfl
@[simp] theorem State.setFree_meter (s : State) (b : Nat) : (s.setFree b).meter = s.meter := rfl
@[simp] theorem State.setFree_subs (s : State) (b : Nat) : (s.setFree b).subs = s.subs := rfl
@[simp] theorem State.setFree_cue (s : State) (b : Nat) : (s.setFree b).cue = s.cue := rfl
@[simp] theorem State.setFree_acct (s : State) (b : Nat) : (s.setFree b).acct = s.acct := rfl
@[simp] theorem State.setFree_caps (s : State) (b : Nat) : (s.setFree b).caps = s.caps := rfl
@[simp] theorem State.setFree_notice (s : State) (b : Nat) : (s.setFree b).notice = s.notice := rfl
@[simp] theorem State.setFree_pwr (s : State) (b : Nat) : (s.setFree b).pwr = s.pwr := rfl
@[simp] theorem State.setFree_link (s : State) (b : Nat) : (s.setFree b).link = s.link := rfl
@[simp] theorem State.setFree_ports (s : State) (b : Nat) : (s.setFree b).ports = s.ports := rfl
@[simp] theorem State.setFree_freeCount (s : State) (b : Nat) : (s.setFree b).freeCount = b := rfl
theorem State.setFree_frame (s : State) (b : Nat) : s.changesOnly (s.setFree b) [.freeCount] := by
  intro c hc; cases c <;> first | rfl | simp at hc

end Sys2Proof.Machine
end

