-- ==== Sys2Proof/Laws/Frames.lean ====
section
/-!
SUPPORT. The frame of every shared operation, said once: the pieces of the state it may change. A proof about a command cites these
and unfolds no operation for what it leaves alone.
-/
namespace Sys2Proof.Machine

theorem State.changesOnly.refl (s : State) (bs : List Block) : s.changesOnly s bs := by
  intro b _; cases b <;> rfl

theorem State.changesOnly.mono {s t : State} {bs cs : List Block} (h : State.changesOnly s t bs) (hs : bs ⊆ cs) : s.changesOnly t cs :=
  fun b hb => h b fun hc => hb (hs hc)

theorem State.changesOnly.trans {s t u : State} {bs : List Block} (h : State.changesOnly s t bs) (k : State.changesOnly t u bs) : s.changesOnly u bs := by
  intro b hb
  have h := h b hb
  have k := k b hb
  cases b <;> exact Eq.trans k h

theorem State.foldl_frame {α : Type} (f : State → α → State) (bs : List Block) (hf : ∀ (s : State) (a : α), s.changesOnly (f s a) bs)
    (l : List α) (s : State) : s.changesOnly (l.foldl f s) bs := by
  induction l generalizing s with
  | nil => exact .refl _ _
  | cons a l ih => exact .trans (hf s a) (ih (f s a))

theorem State.foldl_within {α : Type} {f : State → α → State} {bs : List Block}
    (hf : ∀ (s : State) (a : α), s.changesOnly (f s a) bs) {s t : State} {cs : List Block} (l : List α)
    (h : s.changesOnly t cs) (hb : bs ⊆ cs) : s.changesOnly (l.foldl f t) cs :=
  h.trans (.mono (State.foldl_frame f bs hf l t) hb)

theorem State.setTl_within {s : State} {cs : List Block} (t : State) (b : Timeline) (h : s.changesOnly t cs) (hb : [.tl] ⊆ cs) :
    s.changesOnly (t.setTl b) cs := h.trans (.mono (State.setTl_frame _ _) hb)

theorem State.setCtl_within {s : State} {cs : List Block} (t : State) (b : ShowControl) (h : s.changesOnly t cs) (hb : [.ctl] ⊆ cs) :
    s.changesOnly (t.setCtl b) cs := h.trans (.mono (State.setCtl_frame _ _) hb)

theorem State.setKeys_within {s : State} {cs : List Block} (t : State) (b : KeyTable) (h : s.changesOnly t cs) (hb : [.keys] ⊆ cs) :
    s.changesOnly (t.setKeys b) cs := h.trans (.mono (State.setKeys_frame _ _) hb)

theorem State.setIntake_within {s : State} {cs : List Block} (t : State) (b : Intake) (h : s.changesOnly t cs) (hb : [.intake] ⊆ cs) :
    s.changesOnly (t.setIntake b) cs := h.trans (.mono (State.setIntake_frame _ _) hb)

theorem State.setPic_within {s : State} {cs : List Block} (t : State) (b : Picture) (h : s.changesOnly t cs) (hb : [.pic] ⊆ cs) :
    s.changesOnly (t.setPic b) cs := h.trans (.mono (State.setPic_frame _ _) hb)

theorem State.setSnd_within {s : State} {cs : List Block} (t : State) (b : Sound) (h : s.changesOnly t cs) (hb : [.snd] ⊆ cs) :
    s.changesOnly (t.setSnd b) cs := h.trans (.mono (State.setSnd_frame _ _) hb)

theorem State.setMeter_within {s : State} {cs : List Block} (t : State) (b : Meter) (h : s.changesOnly t cs) (hb : [.meter] ⊆ cs) :
    s.changesOnly (t.setMeter b) cs := h.trans (.mono (State.setMeter_frame _ _) hb)

theorem State.setSubs_within {s : State} {cs : List Block} (t : State) (b : Subtitles) (h : s.changesOnly t cs) (hb : [.subs] ⊆ cs) :
    s.changesOnly (t.setSubs b) cs := h.trans (.mono (State.setSubs_frame _ _) hb)

theorem State.setCue_within {s : State} {cs : List Block} (t : State) (b : CueUnit) (h : s.changesOnly t cs) (hb : [.cue] ⊆ cs) :
    s.changesOnly (t.setCue b) cs := h.trans (.mono (State.setCue_frame _ _) hb)

theorem State.setAcct_within {s : State} {cs : List Block} (t : State) (b : Accounting) (h : s.changesOnly t cs) (hb : [.acct] ⊆ cs) :
    s.changesOnly (t.setAcct b) cs := h.trans (.mono (State.setAcct_frame _ _) hb)

theorem State.setCaps_within {s : State} {cs : List Block} (t : State) (b : Captures) (h : s.changesOnly t cs) (hb : [.caps] ⊆ cs) :
    s.changesOnly (t.setCaps b) cs := h.trans (.mono (State.setCaps_frame _ _) hb)

theorem State.setNotice_within {s : State} {cs : List Block} (t : State) (b : Notices) (h : s.changesOnly t cs) (hb : [.notice] ⊆ cs) :
    s.changesOnly (t.setNotice b) cs := h.trans (.mono (State.setNotice_frame _ _) hb)

theorem State.setPwr_within {s : State} {cs : List Block} (t : State) (b : Power) (h : s.changesOnly t cs) (hb : [.pwr] ⊆ cs) :
    s.changesOnly (t.setPwr b) cs := h.trans (.mono (State.setPwr_frame _ _) hb)

theorem State.setLink_within {s : State} {cs : List Block} (t : State) (b : Link) (h : s.changesOnly t cs) (hb : [.link] ⊆ cs) :
    s.changesOnly (t.setLink b) cs := h.trans (.mono (State.setLink_frame _ _) hb)

theorem State.setPorts_within {s : State} {cs : List Block} (t : State) (b : Ports) (h : s.changesOnly t cs) (hb : [.ports] ⊆ cs) :
    s.changesOnly (t.setPorts b) cs := h.trans (.mono (State.setPorts_frame _ _) hb)

theorem State.setFree_within {s : State} {cs : List Block} (t : State) (b : Nat) (h : s.changesOnly t cs) (hb : [.freeCount] ⊆ cs) :
    s.changesOnly (t.setFree b) cs := h.trans (.mono (State.setFree_frame _ _) hb)

theorem State.raise_frame (s : State) (src : Source) :
    s.changesOnly (s.raise src) [.notice] := by
  unfold State.raise
  try dsimp only
  repeat' split
  all_goals repeat' with_reducible first
    | exact State.changesOnly.refl _ _
    | decide
    | refine State.setNotice_within _ _ ?_ ?_

theorem State.raise_within {s : State} {cs : List Block} (s₁ : State) (src : Source) (h : s.changesOnly s₁ cs)
    (hb : [.notice] ⊆ cs) : s.changesOnly (s₁.raise src) cs := h.trans (.mono (State.raise_frame _ _) hb)

theorem State.withdraw_frame (s : State) (src : Source) :
    s.changesOnly (s.withdraw src) [.notice, .link] := by
  unfold State.withdraw
  try dsimp only
  repeat' split
  all_goals repeat' with_reducible first
    | exact State.changesOnly.refl _ _
    | decide
    | refine State.setNotice_within _ _ ?_ ?_
    | refine State.setLink_within _ _ ?_ ?_

theorem State.withdraw_within {s : State} {cs : List Block} (s₁ : State) (src : Source) (h : s.changesOnly s₁ cs)
    (hb : [.notice, .link] ⊆ cs) : s.changesOnly (s₁.withdraw src) cs := h.trans (.mono (State.withdraw_frame _ _) hb)

theorem State.offer_frame (s : State) (u : CaptureUnit) (k : FaultKind) (c : FaultCause) (d : List Byte) :
    s.changesOnly (s.offer u k c d) [.caps, .notice] := by
  unfold State.offer
  try dsimp only
  repeat' split
  all_goals repeat' with_reducible first
    | exact State.changesOnly.refl _ _
    | decide
    | refine State.raise_within _ _ ?_ ?_
    | refine State.setCaps_within _ _ ?_ ?_

theorem State.offer_within {s : State} {cs : List Block} (s₁ : State) (u : CaptureUnit) (k : FaultKind) (c : FaultCause) (d : List Byte) (h : s.changesOnly s₁ cs)
    (hb : [.caps, .notice] ⊆ cs) : s.changesOnly (s₁.offer u k c d) cs := h.trans (.mono (State.offer_frame _ _ _ _ _) hb)

theorem State.transmit_frame (s : State) (a : Bool) :
    s.changesOnly (s.transmit a) [.link] := by
  unfold State.transmit
  try dsimp only
  repeat' split
  all_goals repeat' with_reducible first
    | exact State.changesOnly.refl _ _
    | decide
    | refine State.setLink_within _ _ ?_ ?_

theorem State.transmit_within {s : State} {cs : List Block} (s₁ : State) (a : Bool) (h : s.changesOnly s₁ cs)
    (hb : [.link] ⊆ cs) : s.changesOnly (s₁.transmit a) cs := h.trans (.mono (State.transmit_frame _ _) hb)

theorem State.compose_frame (s : State) :
    s.changesOnly (s.compose) [.notice] := by
  unfold State.compose
  try dsimp only
  all_goals repeat' with_reducible first
    | exact State.changesOnly.refl _ _
    | decide
    | refine State.setNotice_within _ _ ?_ ?_

theorem State.compose_within {s : State} {cs : List Block} (s₁ : State) (h : s.changesOnly s₁ cs)
    (hb : [.notice] ⊆ cs) : s.changesOnly (s₁.compose) cs := h.trans (.mono (State.compose_frame _) hb)

theorem State.endEvent_frame (s : State) (a : Bool) :
    s.changesOnly (s.endEvent a) [.notice, .link] := by
  unfold State.endEvent
  try dsimp only
  all_goals repeat' with_reducible first
    | exact State.changesOnly.refl _ _
    | decide
    | refine State.transmit_within _ _ ?_ ?_
    | refine State.compose_within _ ?_ ?_

theorem State.endEvent_within {s : State} {cs : List Block} (s₁ : State) (a : Bool) (h : s.changesOnly s₁ cs)
    (hb : [.notice, .link] ⊆ cs) : s.changesOnly (s₁.endEvent a) cs := h.trans (.mono (State.endEvent_frame _ _) hb)

theorem State.dequeue_frame (s : State) :
    s.changesOnly (s.dequeue) [.link] := by
  unfold State.dequeue
  try dsimp only
  all_goals repeat' with_reducible first
    | exact State.changesOnly.refl _ _
    | decide
    | refine State.setLink_within _ _ ?_ ?_

theorem State.dequeue_within {s : State} {cs : List Block} (s₁ : State) (h : s.changesOnly s₁ cs)
    (hb : [.link] ⊆ cs) : s.changesOnly (s₁.dequeue) cs := h.trans (.mono (State.dequeue_frame _) hb)

theorem State.reply_frame (s : State) (f : Frame) (st : Status) (d : List Byte) :
    s.changesOnly (s.reply f st d) [.link] := by
  unfold State.reply
  try dsimp only
  all_goals repeat' with_reducible first
    | exact State.changesOnly.refl _ _
    | decide
    | refine State.setLink_within _ _ ?_ ?_

theorem State.reply_within {s : State} {cs : List Block} (s₁ : State) (f : Frame) (st : Status) (d : List Byte) (h : s.changesOnly s₁ cs)
    (hb : [.link] ⊆ cs) : s.changesOnly (s₁.reply f st d) cs := h.trans (.mono (State.reply_frame _ _ _ _) hb)

theorem State.chose_frame (s : State) :
    s.changesOnly (s.chose) [.freeCount] := by
  unfold State.chose
  try dsimp only
  all_goals repeat' with_reducible first
    | exact State.changesOnly.refl _ _
    | decide
    | refine State.setFree_within _ _ ?_ ?_

theorem State.chose_within {s : State} {cs : List Block} (s₁ : State) (h : s.changesOnly s₁ cs)
    (hb : [.freeCount] ⊆ cs) : s.changesOnly (s₁.chose) cs := h.trans (.mono (State.chose_frame _) hb)

theorem State.reportKeys_frame (s : State) (l : List (Nat × KeyState)) (c : KeysCause) :
    s.changesOnly (s.reportKeys l c) [.keys, .notice] := by
  unfold State.reportKeys
  try dsimp only
  repeat' split
  all_goals repeat' with_reducible first
    | exact State.changesOnly.refl _ _
    | decide
    | refine State.raise_within _ _ ?_ ?_
    | refine State.setKeys_within _ _ ?_ ?_

theorem State.reportKeys_within {s : State} {cs : List Block} (s₁ : State) (l : List (Nat × KeyState)) (c : KeysCause) (h : s.changesOnly s₁ cs)
    (hb : [.keys, .notice] ⊆ cs) : s.changesOnly (s₁.reportKeys l c) cs := h.trans (.mono (State.reportKeys_frame _ _ _) hb)

theorem State.evaluateKeys_frame (s : State) :
    s.changesOnly (s.evaluateKeys) [.keys, .notice] := by
  unfold State.evaluateKeys
  try dsimp only
  all_goals repeat' with_reducible first
    | exact State.changesOnly.refl _ _
    | decide
    | refine State.reportKeys_within _ _ _ ?_ ?_
    | refine State.setKeys_within _ _ ?_ ?_

theorem State.evaluateKeys_within {s : State} {cs : List Block} (s₁ : State) (h : s.changesOnly s₁ cs)
    (hb : [.keys, .notice] ⊆ cs) : s.changesOnly (s₁.evaluateKeys) cs := h.trans (.mono (State.evaluateKeys_frame _) hb)

theorem State.chargeKeys_frame (s : State) (l : List Id) :
    s.changesOnly (s.chargeKeys l) [.keys, .notice] := by
  unfold State.chargeKeys
  try dsimp only
  all_goals repeat' with_reducible first
    | exact State.changesOnly.refl _ _
    | decide
    | refine State.reportKeys_within _ _ _ ?_ ?_
    | refine State.setKeys_within _ _ ?_ ?_

theorem State.chargeKeys_within {s : State} {cs : List Block} (s₁ : State) (l : List Id) (h : s.changesOnly s₁ cs)
    (hb : [.keys, .notice] ⊆ cs) : s.changesOnly (s₁.chargeKeys l) cs := h.trans (.mono (State.chargeKeys_frame _ _) hb)

theorem State.chargeEntry_frame (s : State) (i : Nat) :
    s.changesOnly (s.chargeEntry i) [.keys, .notice, .acct] := by
  unfold State.chargeEntry
  try dsimp only
  repeat' split
  all_goals repeat' with_reducible first
    | exact State.changesOnly.refl _ _
    | decide
    | refine State.raise_within _ _ ?_ ?_
    | refine State.chargeKeys_within _ _ ?_ ?_
    | refine State.setAcct_within _ _ ?_ ?_

theorem State.chargeEntry_within {s : State} {cs : List Block} (s₁ : State) (i : Nat) (h : s.changesOnly s₁ cs)
    (hb : [.keys, .notice, .acct] ⊆ cs) : s.changesOnly (s₁.chargeEntry i) cs := h.trans (.mono (State.chargeEntry_frame _ _) hb)

theorem State.examineLog_frame (s : State) :
    s.changesOnly (s.examineLog) [.acct, .notice] := by
  unfold State.examineLog
  try dsimp only
  repeat' split
  all_goals repeat' with_reducible first
    | exact State.changesOnly.refl _ _
    | decide
    | refine State.raise_within _ _ ?_ ?_
    | refine State.setAcct_within _ _ ?_ ?_

theorem State.examineLog_within {s : State} {cs : List Block} (s₁ : State) (h : s.changesOnly s₁ cs)
    (hb : [.acct, .notice] ⊆ cs) : s.changesOnly (s₁.examineLog) cs := h.trans (.mono (State.examineLog_frame _) hb)

theorem State.showEvent_frame (s : State) (c : ShowCode) (o : Option ShowOutcome) :
    s.changesOnly (s.showEvent c o) [.ctl, .notice] := by
  unfold State.showEvent
  try dsimp only
  all_goals repeat' with_reducible first
    | exact State.changesOnly.refl _ _
    | decide
    | refine State.raise_within _ _ ?_ ?_
    | refine State.setCtl_within _ _ ?_ ?_

theorem State.showEvent_within {s : State} {cs : List Block} (s₁ : State) (c : ShowCode) (o : Option ShowOutcome) (h : s.changesOnly s₁ cs)
    (hb : [.ctl, .notice] ⊆ cs) : s.changesOnly (s₁.showEvent c o) cs := h.trans (.mono (State.showEvent_frame _ _ _) hb)

theorem State.checkPriming_frame (s : State) :
    s.changesOnly (s.checkPriming) [.ctl, .notice] := by
  unfold State.checkPriming
  try dsimp only
  repeat' split
  all_goals repeat' with_reducible first
    | exact State.changesOnly.refl _ _
    | decide
    | refine State.showEvent_within _ _ _ ?_ ?_
    | refine State.setCtl_within _ _ ?_ ?_

theorem State.checkPriming_within {s : State} {cs : List Block} (s₁ : State) (h : s.changesOnly s₁ cs)
    (hb : [.ctl, .notice] ⊆ cs) : s.changesOnly (s₁.checkPriming) cs := h.trans (.mono (State.checkPriming_frame _) hb)

theorem State.modifyTrack_frame (s : State) (t : Track) (f : SubtitleTrack → SubtitleTrack) :
    s.changesOnly (s.modifyTrack t f) [.subs] := by
  unfold State.modifyTrack
  try dsimp only
  all_goals repeat' with_reducible first
    | exact State.changesOnly.refl _ _
    | decide
    | refine State.setSubs_within _ _ ?_ ?_

theorem State.modifyTrack_within {s : State} {cs : List Block} (s₁ : State) (t : Track) (f : SubtitleTrack → SubtitleTrack) (h : s.changesOnly s₁ cs)
    (hb : [.subs] ⊆ cs) : s.changesOnly (s₁.modifyTrack t f) cs := h.trans (.mono (State.modifyTrack_frame _ _ _) hb)

theorem State.handDefects_frame (s : State) (t : Track) :
    s.changesOnly (s.handDefects t) [.subs, .acct] := by
  unfold State.handDefects
  try dsimp only
  repeat' split
  all_goals repeat' with_reducible first
    | exact State.changesOnly.refl _ _
    | decide
    | refine State.modifyTrack_within _ _ _ ?_ ?_
    | refine State.setAcct_within _ _ ?_ ?_

theorem State.handDefects_within {s : State} {cs : List Block} (s₁ : State) (t : Track) (h : s.changesOnly s₁ cs)
    (hb : [.subs, .acct] ⊆ cs) : s.changesOnly (s₁.handDefects t) cs := h.trans (.mono (State.handDefects_frame _ _) hb)

theorem State.subtitleReelStart_frame (s : State) (t : Track) :
    s.changesOnly (s.subtitleReelStart t) [.subs, .acct] := by
  unfold State.subtitleReelStart
  try dsimp only
  all_goals repeat' with_reducible first
    | exact State.changesOnly.refl _ _
    | decide
    | refine State.handDefects_within _ _ ?_ ?_
    | refine State.modifyTrack_within _ _ _ ?_ ?_

theorem State.subtitleReelStart_within {s : State} {cs : List Block} (s₁ : State) (t : Track) (h : s.changesOnly s₁ cs)
    (hb : [.subs, .acct] ⊆ cs) : s.changesOnly (s₁.subtitleReelStart t) cs := h.trans (.mono (State.subtitleReelStart_frame _ _) hb)

theorem State.offerDrops_frame (s : State) (t : Track) (e r : Nat) (d : List (FaultCause × Nat)) :
    s.changesOnly (s.offerDrops t e r d) [.caps, .notice] := by
  exact State.foldl_frame _ _ (fun s d => State.offer_frame s _ _ _ _) _ _

theorem State.offerDrops_within {s : State} {cs : List Block} (s₁ : State) (t : Track) (e r : Nat) (d : List (FaultCause × Nat)) (h : s.changesOnly s₁ cs)
    (hb : [.caps, .notice] ⊆ cs) : s.changesOnly (s₁.offerDrops t e r d) cs := h.trans (.mono (State.offerDrops_frame _ _ _ _ _) hb)

theorem State.placeTable_frame (s : State) (t : Track) (x : ReelTable) :
    s.changesOnly (s.placeTable t x) [.subs, .acct, .ctl, .caps, .notice] := by
  unfold State.placeTable
  try dsimp only
  repeat' split
  all_goals repeat' with_reducible first
    | exact State.changesOnly.refl _ _
    | decide
    | refine State.checkPriming_within _ ?_ ?_
    | refine State.handDefects_within _ _ ?_ ?_
    | refine State.modifyTrack_within _ _ _ ?_ ?_
    | refine State.offer_within _ _ _ _ _ ?_ ?_
    | refine State.setAcct_within _ _ ?_ ?_

theorem State.placeTable_within {s : State} {cs : List Block} (s₁ : State) (t : Track) (x : ReelTable) (h : s.changesOnly s₁ cs)
    (hb : [.subs, .acct, .ctl, .caps, .notice] ⊆ cs) : s.changesOnly (s₁.placeTable t x) cs := h.trans (.mono (State.placeTable_frame _ _ _) hb)

theorem State.deliverLost_frame (s : State) (t : Track) (e r : Nat) (c : LossCause) :
    s.changesOnly (s.deliverLost t e r c) [.subs, .acct, .ctl, .caps, .notice] := by
  unfold State.deliverLost
  try dsimp only
  repeat' split
  all_goals repeat' with_reducible first
    | exact State.changesOnly.refl _ _
    | decide
    | refine State.placeTable_within _ _ _ ?_ ?_
    | refine State.offer_within _ _ _ _ _ ?_ ?_

theorem State.deliverLost_within {s : State} {cs : List Block} (s₁ : State) (t : Track) (e r : Nat) (c : LossCause) (h : s.changesOnly s₁ cs)
    (hb : [.subs, .acct, .ctl, .caps, .notice] ⊆ cs) : s.changesOnly (s₁.deliverLost t e r c) cs := h.trans (.mono (State.deliverLost_frame _ _ _ _ _) hb)

theorem State.deliverUnit_frame (s : State) (t : Track) (e r : Nat) (p : List Byte) :
    s.changesOnly (s.deliverUnit t e r p) [.subs, .acct, .ctl, .caps, .notice] := by
  unfold State.deliverUnit
  try dsimp only
  repeat' split
  all_goals repeat' with_reducible first
    | exact State.changesOnly.refl _ _
    | decide
    | refine State.deliverLost_within _ _ _ _ _ ?_ ?_
    | refine State.placeTable_within _ _ _ ?_ ?_
    | refine State.offerDrops_within _ _ _ _ _ ?_ ?_

theorem State.deliverUnit_within {s : State} {cs : List Block} (s₁ : State) (t : Track) (e r : Nat) (p : List Byte) (h : s.changesOnly s₁ cs)
    (hb : [.subs, .acct, .ctl, .caps, .notice] ⊆ cs) : s.changesOnly (s₁.deliverUnit t e r p) cs := h.trans (.mono (State.deliverUnit_frame _ _ _ _ _) hb)

theorem State.sendSubtitle_frame (s : State) (t : Track) (r : SubtitleRecord) :
    s.changesOnly (s.sendSubtitle t r) [.ports] := by
  unfold State.sendSubtitle
  try dsimp only
  repeat' split
  all_goals repeat' with_reducible first
    | exact State.changesOnly.refl _ _
    | decide
    | refine State.setPorts_within _ _ ?_ ?_

theorem State.sendSubtitle_within {s : State} {cs : List Block} (s₁ : State) (t : Track) (r : SubtitleRecord) (h : s.changesOnly s₁ cs)
    (hb : [.ports] ⊆ cs) : s.changesOnly (s₁.sendSubtitle t r) cs := h.trans (.mono (State.sendSubtitle_frame _ _ _) hb)

theorem State.sendEvent_frame (s : State) (t : Track) (i : Nat) (e : SubtitleEvent) :
    s.changesOnly (s.sendEvent t i e) [.subs, .ports] := by
  unfold State.sendEvent
  try dsimp only
  repeat' split
  all_goals repeat' with_reducible first
    | exact State.changesOnly.refl _ _
    | decide
    | refine State.modifyTrack_within _ _ _ ?_ ?_
    | refine State.sendSubtitle_within _ _ _ ?_ ?_

theorem State.sendEvent_within {s : State} {cs : List Block} (s₁ : State) (t : Track) (i : Nat) (e : SubtitleEvent) (h : s.changesOnly s₁ cs)
    (hb : [.subs, .ports] ⊆ cs) : s.changesOnly (s₁.sendEvent t i e) cs := h.trans (.mono (State.sendEvent_frame _ _ _ _) hb)

theorem State.subtitleTrackSlot_frame (s : State) (t : Track) (i f : Nat) :
    s.changesOnly (s.subtitleTrackSlot t i f) [.subs, .ports] := by
  unfold State.subtitleTrackSlot
  try dsimp only
  repeat' split
  all_goals repeat' with_reducible first
    | exact State.changesOnly.refl _ _
    | decide
    | refine State.foldl_within (fun _ _ => State.sendEvent_frame _ _ _ _) _ ?_ ?_
    | refine State.modifyTrack_within _ _ _ ?_ ?_

theorem State.subtitleTrackSlot_within {s : State} {cs : List Block} (s₁ : State) (t : Track) (i f : Nat) (h : s.changesOnly s₁ cs)
    (hb : [.subs, .ports] ⊆ cs) : s.changesOnly (s₁.subtitleTrackSlot t i f) cs := h.trans (.mono (State.subtitleTrackSlot_frame _ _ _ _) hb)

theorem State.subtitleSlotStart_frame (s : State) (i f : Nat) :
    s.changesOnly (s.subtitleSlotStart i f) [.subs, .ports] := by
  unfold State.subtitleSlotStart
  try dsimp only
  all_goals repeat' with_reducible first
    | exact State.changesOnly.refl _ _
    | decide
    | refine State.subtitleTrackSlot_within _ _ _ _ ?_ ?_

theorem State.subtitleSlotStart_within {s : State} {cs : List Block} (s₁ : State) (i f : Nat) (h : s.changesOnly s₁ cs)
    (hb : [.subs, .ports] ⊆ cs) : s.changesOnly (s₁.subtitleSlotStart i f) cs := h.trans (.mono (State.subtitleSlotStart_frame _ _ _) hb)

theorem State.subtitleEntryStart_frame (s : State) :
    s.changesOnly (s.subtitleEntryStart) [.subs] := by
  unfold State.subtitleEntryStart
  try dsimp only
  all_goals repeat' with_reducible first
    | exact State.changesOnly.refl _ _
    | decide
    | refine State.setSubs_within _ _ ?_ ?_

theorem State.subtitleEntryStart_within {s : State} {cs : List Block} (s₁ : State) (h : s.changesOnly s₁ cs)
    (hb : [.subs] ⊆ cs) : s.changesOnly (s₁.subtitleEntryStart) cs := h.trans (.mono (State.subtitleEntryStart_frame _) hb)

theorem State.enableSubtitle_frame (s : State) (t : Track) (b : Bool) :
    s.changesOnly (s.enableSubtitle t b) [.subs, .ports] := by
  unfold State.enableSubtitle
  try dsimp only
  repeat' split
  all_goals repeat' with_reducible first
    | exact State.changesOnly.refl _ _
    | decide
    | refine State.modifyTrack_within _ _ _ ?_ ?_
    | refine State.sendSubtitle_within _ _ _ ?_ ?_

theorem State.enableSubtitle_within {s : State} {cs : List Block} (s₁ : State) (t : Track) (b : Bool) (h : s.changesOnly s₁ cs)
    (hb : [.subs, .ports] ⊆ cs) : s.changesOnly (s₁.enableSubtitle t b) cs := h.trans (.mono (State.enableSubtitle_frame _ _ _) hb)

theorem State.discardTables_frame (s : State) :
    s.changesOnly (s.discardTables) [.subs] := by
  unfold State.discardTables
  try dsimp only
  all_goals repeat' with_reducible first
    | exact State.changesOnly.refl _ _
    | decide
    | refine State.setSubs_within _ _ ?_ ?_

theorem State.discardTables_within {s : State} {cs : List Block} (s₁ : State) (h : s.changesOnly s₁ cs)
    (hb : [.subs] ⊆ cs) : s.changesOnly (s₁.discardTables) cs := h.trans (.mono (State.discardTables_frame _) hb)

theorem State.armSubtitles_frame (s : State) :
    s.changesOnly (s.armSubtitles) [.subs] := by
  unfold State.armSubtitles
  try dsimp only
  all_goals repeat' with_reducible first
    | exact State.changesOnly.refl _ _
    | decide
    | refine State.setSubs_within _ _ ?_ ?_
    | refine State.discardTables_within _ ?_ ?_

theorem State.armSubtitles_within {s : State} {cs : List Block} (s₁ : State) (h : s.changesOnly s₁ cs)
    (hb : [.subs] ⊆ cs) : s.changesOnly (s₁.armSubtitles) cs := h.trans (.mono (State.armSubtitles_frame _) hb)

theorem State.stopSubtitles_frame (s : State) :
    s.changesOnly (s.stopSubtitles) [.subs, .ports] := by
  unfold State.stopSubtitles
  try dsimp only
  all_goals repeat' with_reducible first
    | exact State.changesOnly.refl _ _
    | decide
    | refine State.sendSubtitle_within _ _ _ ?_ ?_
    | refine State.discardTables_within _ ?_ ?_

theorem State.stopSubtitles_within {s : State} {cs : List Block} (s₁ : State) (h : s.changesOnly s₁ cs)
    (hb : [.subs, .ports] ⊆ cs) : s.changesOnly (s₁.stopSubtitles) cs := h.trans (.mono (State.stopSubtitles_frame _) hb)

theorem State.armIntake_frame (s : State) :
    s.changesOnly (s.armIntake) [.intake] := by
  unfold State.armIntake
  try dsimp only
  all_goals repeat' with_reducible first
    | exact State.changesOnly.refl _ _
    | decide
    | refine State.setIntake_within _ _ ?_ ?_

theorem State.armIntake_within {s : State} {cs : List Block} (s₁ : State) (h : s.changesOnly s₁ cs)
    (hb : [.intake] ⊆ cs) : s.changesOnly (s₁.armIntake) cs := h.trans (.mono (State.armIntake_frame _) hb)

theorem State.purge_frame (s : State) :
    s.changesOnly (s.purge) [.intake] := by
  unfold State.purge
  try dsimp only
  all_goals repeat' with_reducible first
    | exact State.changesOnly.refl _ _
    | decide
    | refine State.setIntake_within _ _ ?_ ?_

theorem State.purge_within {s : State} {cs : List Block} (s₁ : State) (h : s.changesOnly s₁ cs)
    (hb : [.intake] ⊆ cs) : s.changesOnly (s₁.purge) cs := h.trans (.mono (State.purge_frame _) hb)

theorem State.deliver_frame (s : State) (r : SubtitleRequest) :
    s.changesOnly (s.deliver r) [.subs, .acct, .ctl, .caps, .notice] := by
  unfold State.deliver
  try dsimp only
  repeat' split
  all_goals repeat' with_reducible first
    | exact State.changesOnly.refl _ _
    | decide
    | refine State.deliverUnit_within _ _ _ _ _ ?_ ?_
    | refine State.deliverLost_within _ _ _ _ _ ?_ ?_

theorem State.deliver_within {s : State} {cs : List Block} (s₁ : State) (r : SubtitleRequest) (h : s.changesOnly s₁ cs)
    (hb : [.subs, .acct, .ctl, .caps, .notice] ⊆ cs) : s.changesOnly (s₁.deliver r) cs := h.trans (.mono (State.deliver_frame _ _) hb)

theorem State.deliverHeld_frame (s : State) :
    s.changesOnly (s.deliverHeld) [.intake, .subs, .acct, .ctl, .caps, .notice] := by
  unfold State.deliverHeld
  try dsimp only
  all_goals repeat' with_reducible first
    | exact State.changesOnly.refl _ _
    | decide
    | refine State.foldl_within (fun _ _ => State.deliver_frame _ _) _ ?_ ?_
    | refine State.setIntake_within _ _ ?_ ?_

theorem State.deliverHeld_within {s : State} {cs : List Block} (s₁ : State) (h : s.changesOnly s₁ cs)
    (hb : [.intake, .subs, .acct, .ctl, .caps, .notice] ⊆ cs) : s.changesOnly (s₁.deliverHeld) cs := h.trans (.mono (State.deliverHeld_frame _) hb)

theorem State.lose_frame (s : State) (o : Owner) (c : LossCause) (d : List Byte) :
    s.changesOnly (s.lose o c d) [.intake, .subs, .acct, .ctl, .caps, .notice] := by
  unfold State.lose
  try dsimp only
  repeat' split
  all_goals repeat' with_reducible first
    | exact State.changesOnly.refl _ _
    | decide
    | refine State.checkPriming_within _ ?_ ?_
    | refine State.deliverHeld_within _ ?_ ?_
    | refine State.offer_within _ _ _ _ _ ?_ ?_
    | refine State.setIntake_within _ _ ?_ ?_

theorem State.lose_within {s : State} {cs : List Block} (s₁ : State) (o : Owner) (c : LossCause) (d : List Byte) (h : s.changesOnly s₁ cs)
    (hb : [.intake, .subs, .acct, .ctl, .caps, .notice] ⊆ cs) : s.changesOnly (s₁.lose o c d) cs := h.trans (.mono (State.lose_frame _ _ _ _) hb)

theorem State.opened_frame (s : State) (o : Owner) (d : List Byte) :
    s.changesOnly (s.opened o d) [.intake, .subs, .acct, .ctl, .caps, .notice] := by
  unfold State.opened
  try dsimp only
  repeat' split
  all_goals repeat' with_reducible first
    | exact State.changesOnly.refl _ _
    | decide
    | refine State.checkPriming_within _ ?_ ?_
    | refine State.deliverHeld_within _ ?_ ?_
    | refine State.setIntake_within _ _ ?_ ?_

theorem State.opened_within {s : State} {cs : List Block} (s₁ : State) (o : Owner) (d : List Byte) (h : s.changesOnly s₁ cs)
    (hb : [.intake, .subs, .acct, .ctl, .caps, .notice] ⊆ cs) : s.changesOnly (s₁.opened o d) cs := h.trans (.mono (State.opened_frame _ _ _) hb)

theorem State.storageFailure_frame (s : State) (o : Owner) :
    s.changesOnly (s.storageFailure o) [.intake, .subs, .acct, .ctl, .caps, .notice] := by
  unfold State.storageFailure
  try dsimp only
  repeat' split
  all_goals repeat' with_reducible first
    | exact State.changesOnly.refl _ _
    | decide
    | refine State.lose_within _ _ _ _ ?_ ?_
    | refine State.setIntake_within _ _ ?_ ?_

theorem State.storageFailure_within {s : State} {cs : List Block} (s₁ : State) (o : Owner) (h : s.changesOnly s₁ cs)
    (hb : [.intake, .subs, .acct, .ctl, .caps, .notice] ⊆ cs) : s.changesOnly (s₁.storageFailure o) cs := h.trans (.mono (State.storageFailure_frame _ _) hb)

theorem State.integrityMismatch_frame (s : State) (o : Owner) :
    s.changesOnly (s.integrityMismatch o) [.intake, .subs, .acct, .ctl, .caps, .notice] := by
  unfold State.integrityMismatch
  try dsimp only
  repeat' split
  all_goals repeat' with_reducible first
    | exact State.changesOnly.refl _ _
    | decide
    | refine State.lose_within _ _ _ _ ?_ ?_
    | refine State.setIntake_within _ _ ?_ ?_

theorem State.integrityMismatch_within {s : State} {cs : List Block} (s₁ : State) (o : Owner) (h : s.changesOnly s₁ cs)
    (hb : [.intake, .subs, .acct, .ctl, .caps, .notice] ⊆ cs) : s.changesOnly (s₁.integrityMismatch o) cs := h.trans (.mono (State.integrityMismatch_frame _ _) hb)

theorem State.openData_frame (s : State) (r : StorageRequest) (u : List Byte) :
    s.changesOnly (s.openData r u) [.intake, .subs, .acct, .ctl, .caps, .notice] := by
  unfold State.openData
  try dsimp only
  repeat' split
  all_goals repeat' with_reducible first
    | exact State.changesOnly.refl _ _
    | decide
    | refine State.lose_within _ _ _ _ ?_ ?_
    | refine State.opened_within _ _ _ ?_ ?_
    | refine State.integrityMismatch_within _ _ ?_ ?_

theorem State.openData_within {s : State} {cs : List Block} (s₁ : State) (r : StorageRequest) (u : List Byte) (h : s.changesOnly s₁ cs)
    (hb : [.intake, .subs, .acct, .ctl, .caps, .notice] ⊆ cs) : s.changesOnly (s₁.openData r u) cs := h.trans (.mono (State.openData_frame _ _ _) hb)

theorem State.storageData_frame (s : State) (q : BitVec 16) (u : List Byte) :
    s.changesOnly (s.storageData q u) [.intake, .subs, .acct, .ctl, .caps, .notice] := by
  unfold State.storageData
  try dsimp only
  repeat' split
  all_goals repeat' with_reducible first
    | exact State.changesOnly.refl _ _
    | decide
    | refine State.openData_within _ _ _ ?_ ?_
    | refine State.setIntake_within _ _ ?_ ?_

theorem State.storageData_within {s : State} {cs : List Block} (s₁ : State) (q : BitVec 16) (u : List Byte) (h : s.changesOnly s₁ cs)
    (hb : [.intake, .subs, .acct, .ctl, .caps, .notice] ⊆ cs) : s.changesOnly (s₁.storageData q u) cs := h.trans (.mono (State.storageData_frame _ _ _) hb)

theorem State.storageError_frame (s : State) (q : BitVec 16) (c : Byte) :
    s.changesOnly (s.storageError q c) [.intake, .subs, .acct, .ctl, .caps, .notice] := by
  unfold State.storageError
  try dsimp only
  repeat' split
  all_goals repeat' with_reducible first
    | exact State.changesOnly.refl _ _
    | decide
    | refine State.storageFailure_within _ _ ?_ ?_
    | refine State.setIntake_within _ _ ?_ ?_

theorem State.storageError_within {s : State} {cs : List Block} (s₁ : State) (q : BitVec 16) (c : Byte) (h : s.changesOnly s₁ cs)
    (hb : [.intake, .subs, .acct, .ctl, .caps, .notice] ⊆ cs) : s.changesOnly (s₁.storageError q c) cs := h.trans (.mono (State.storageError_frame _ _ _) hb)

theorem State.storageTimeout_frame (s : State) (i : Nat) :
    s.changesOnly (s.storageTimeout i) [.intake, .subs, .acct, .ctl, .caps, .notice] := by
  unfold State.storageTimeout
  try dsimp only
  repeat' split
  all_goals repeat' with_reducible first
    | exact State.changesOnly.refl _ _
    | decide
    | refine State.storageFailure_within _ _ ?_ ?_
    | refine State.setIntake_within _ _ ?_ ?_

theorem State.storageTimeout_within {s : State} {cs : List Block} (s₁ : State) (i : Nat) (h : s.changesOnly s₁ cs)
    (hb : [.intake, .subs, .acct, .ctl, .caps, .notice] ⊆ cs) : s.changesOnly (s₁.storageTimeout i) cs := h.trans (.mono (State.storageTimeout_frame _ _) hb)

theorem State.issue_frame (s : State) (i : Nat) (o : Owner) (t u : Nat) :
    s.changesOnly (s.issue i o t u) [.intake, .ports] := by
  unfold State.issue
  try dsimp only
  all_goals repeat' with_reducible first
    | exact State.changesOnly.refl _ _
    | decide
    | refine State.setIntake_within _ _ ?_ ?_
    | refine State.setPorts_within _ _ ?_ ?_

theorem State.issue_within {s : State} {cs : List Block} (s₁ : State) (i : Nat) (o : Owner) (t u : Nat) (h : s.changesOnly s₁ cs)
    (hb : [.intake, .ports] ⊆ cs) : s.changesOnly (s₁.issue i o t u) cs := h.trans (.mono (State.issue_frame _ _ _ _ _) hb)

theorem State.performIssue_frame (s : State) (i : Nat) (w : Issue) :
    s.changesOnly (s.performIssue i w) [.intake, .ports] := by
  unfold State.performIssue
  try dsimp only
  repeat' split
  all_goals repeat' with_reducible first
    | exact State.changesOnly.refl _ _
    | decide
    | refine State.issue_within _ _ _ _ _ ?_ ?_
    | refine State.setIntake_within _ _ ?_ ?_

theorem State.performIssue_within {s : State} {cs : List Block} (s₁ : State) (i : Nat) (w : Issue) (h : s.changesOnly s₁ cs)
    (hb : [.intake, .ports] ⊆ cs) : s.changesOnly (s₁.performIssue i w) cs := h.trans (.mono (State.performIssue_frame _ _ _) hb)

theorem State.sweepVisit_frame (s : State) :
    s.changesOnly (s.sweepVisit) [.intake, .ports] := by
  unfold State.sweepVisit
  try dsimp only
  repeat' split
  all_goals repeat' with_reducible first
    | exact State.changesOnly.refl _ _
    | decide
    | refine State.performIssue_within _ _ _ ?_ ?_
    | refine State.setIntake_within _ _ ?_ ?_

theorem State.sweepVisit_within {s : State} {cs : List Block} (s₁ : State) (h : s.changesOnly s₁ cs)
    (hb : [.intake, .ports] ⊆ cs) : s.changesOnly (s₁.sweepVisit) cs := h.trans (.mono (State.sweepVisit_frame _) hb)

theorem State.passCursor_frame (s : State) (q : QueueId) (p : Pos) :
    s.changesOnly (s.passCursor q p) [.intake] := by
  unfold State.passCursor
  try dsimp only
  repeat' split
  all_goals repeat' with_reducible first
    | exact State.changesOnly.refl _ _
    | decide
    | refine State.setIntake_within _ _ ?_ ?_

theorem State.passCursor_within {s : State} {cs : List Block} (s₁ : State) (q : QueueId) (p : Pos) (h : s.changesOnly s₁ cs)
    (hb : [.intake] ⊆ cs) : s.changesOnly (s₁.passCursor q p) cs := h.trans (.mono (State.passCursor_frame _ _ _) hb)

theorem State.take_frame (s : State) (q : QueueId) (i f : Nat) :
    s.changesOnly ((s.take q i f).2) [.intake, .caps, .notice] := by
  unfold State.take
  try dsimp only
  repeat' split
  all_goals repeat' with_reducible first
    | exact State.changesOnly.refl _ _
    | decide
    | refine State.offer_within _ _ _ _ _ ?_ ?_
    | refine State.passCursor_within _ _ _ ?_ ?_
    | refine State.setIntake_within _ _ ?_ ?_

theorem State.take_within {s : State} {cs : List Block} (s₁ : State) (q : QueueId) (i f : Nat) (h : s.changesOnly s₁ cs)
    (hb : [.intake, .caps, .notice] ⊆ cs) : s.changesOnly ((s₁.take q i f).2) cs := h.trans (.mono (State.take_frame _ _ _ _) hb)

theorem State.take_eq_frame {s s' : State} {q : QueueId} {i f : Nat} {x : Take} (h : s.take q i f = (x, s')) :
    s.changesOnly s' [.intake, .caps, .notice] := by
  have h' := State.take_frame s q i f
  rw [h] at h'
  exact h'

theorem State.modifySnd_frame (s : State) (f : Sound → Sound) :
    s.changesOnly (s.modifySnd f) [.snd] := by
  unfold State.modifySnd
  try dsimp only
  all_goals repeat' with_reducible first
    | exact State.changesOnly.refl _ _
    | decide
    | refine State.setSnd_within _ _ ?_ ?_

theorem State.modifySnd_within {s : State} {cs : List Block} (s₁ : State) (f : Sound → Sound) (h : s.changesOnly s₁ cs)
    (hb : [.snd] ⊆ cs) : s.changesOnly (s₁.modifySnd f) cs := h.trans (.mono (State.modifySnd_frame _ _) hb)

theorem State.startFade_frame (s : State) (b : BitVec 18) (t m : Nat) :
    s.changesOnly (s.startFade b t m) [.snd] := by
  unfold State.startFade
  try dsimp only
  all_goals repeat' with_reducible first
    | exact State.changesOnly.refl _ _
    | decide
    | refine State.modifySnd_within _ _ ?_ ?_

theorem State.startFade_within {s : State} {cs : List Block} (s₁ : State) (b : BitVec 18) (t m : Nat) (h : s.changesOnly s₁ cs)
    (hb : [.snd] ⊆ cs) : s.changesOnly (s₁.startFade b t m) cs := h.trans (.mono (State.startFade_frame _ _ _ _) hb)

theorem State.fadePause_frame (s : State) (t m : Nat) :
    s.changesOnly (s.fadePause t m) [.snd] := by
  unfold State.fadePause
  try dsimp only
  all_goals repeat' with_reducible first
    | exact State.changesOnly.refl _ _
    | decide
    | refine State.modifySnd_within _ _ ?_ ?_

theorem State.fadePause_within {s : State} {cs : List Block} (s₁ : State) (t m : Nat) (h : s.changesOnly s₁ cs)
    (hb : [.snd] ⊆ cs) : s.changesOnly (s₁.fadePause t m) cs := h.trans (.mono (State.fadePause_frame _ _ _) hb)

theorem State.offerClamp_frame (s : State) (l : List (Nat × Nat)) (c : FaultCause) :
    s.changesOnly (s.offerClamp l c) [.caps, .notice] := by
  unfold State.offerClamp
  try dsimp only
  repeat' split
  all_goals repeat' with_reducible first
    | exact State.changesOnly.refl _ _
    | decide
    | refine State.offer_within _ _ _ _ _ ?_ ?_

theorem State.offerClamp_within {s : State} {cs : List Block} (s₁ : State) (l : List (Nat × Nat)) (c : FaultCause) (h : s.changesOnly s₁ cs)
    (hb : [.caps, .notice] ⊆ cs) : s.changesOnly (s₁.offerClamp l c) cs := h.trans (.mono (State.offerClamp_frame _ _ _) hb)

theorem State.applyDelays_frame (s : State) :
    s.changesOnly (s.applyDelays) [.snd] := by
  unfold State.applyDelays
  try dsimp only
  repeat' split
  all_goals repeat' with_reducible first
    | exact State.changesOnly.refl _ _
    | decide
    | refine State.modifySnd_within _ _ ?_ ?_

theorem State.applyDelays_within {s : State} {cs : List Block} (s₁ : State) (h : s.changesOnly s₁ cs)
    (hb : [.snd] ⊆ cs) : s.changesOnly (s₁.applyDelays) cs := h.trans (.mono (State.applyDelays_frame _) hb)

theorem State.soundGap_frame (s : State) (t : Track) (x : Take) (i : Nat) :
    s.changesOnly (s.soundGap t x i) [.acct, .caps, .notice] := by
  unfold State.soundGap
  try dsimp only
  repeat' split
  all_goals repeat' with_reducible first
    | exact State.changesOnly.refl _ _
    | decide
    | refine State.offer_within _ _ _ _ _ ?_ ?_
    | refine State.setAcct_within _ _ ?_ ?_

theorem State.soundGap_within {s : State} {cs : List Block} (s₁ : State) (t : Track) (x : Take) (i : Nat) (h : s.changesOnly s₁ cs)
    (hb : [.acct, .caps, .notice] ⊆ cs) : s.changesOnly (s₁.soundGap t x i) cs := h.trans (.mono (State.soundGap_frame _ _ _ _) hb)

theorem State.holdSound_frame (s : State) (k : Track) (x : Take) (i : Nat) :
    s.changesOnly (s.holdSound k x i) [.snd, .acct, .caps, .notice] := by
  unfold State.holdSound
  all_goals repeat' with_reducible first
    | exact State.changesOnly.refl _ _
    | decide
    | refine State.soundGap_within _ _ _ _ ?_ ?_
    | refine State.modifySnd_within _ _ ?_ ?_

theorem State.holdSound_within {s : State} {cs : List Block} (s₁ : State) (k : Track) (x : Take) (i : Nat) (h : s.changesOnly s₁ cs)
    (hb : [.snd, .acct, .caps, .notice] ⊆ cs) : s.changesOnly (s₁.holdSound k x i) cs := h.trans (.mono (State.holdSound_frame _ _ _ _) hb)

theorem State.takeSounds_frame (s : State) (i f : Nat) :
    s.changesOnly (s.takeSounds i f) [.snd, .intake, .acct, .caps, .notice] := by
  unfold State.takeSounds
  try dsimp only
  repeat' split
  all_goals repeat' with_reducible first
    | exact State.changesOnly.refl _ _
    | decide
    | refine State.holdSound_within _ _ _ _ ?_ ?_
    | refine State.modifySnd_within _ _ ?_ ?_
    | refine State.take_within _ _ _ _ ?_ ?_

theorem State.takeSounds_within {s : State} {cs : List Block} (s₁ : State) (i f : Nat) (h : s.changesOnly s₁ cs)
    (hb : [.snd, .intake, .acct, .caps, .notice] ⊆ cs) : s.changesOnly (s₁.takeSounds i f) cs := h.trans (.mono (State.takeSounds_frame _ _ _) hb)

theorem State.warnSounds_frame (s : State) (i f : Nat) : s.changesOnly (s.warnSounds i f) [.snd] := by
  unfold State.warnSounds
  all_goals repeat' with_reducible first
    | exact State.changesOnly.refl _ _
    | decide
    | refine State.modifySnd_within _ _ ?_ ?_

theorem State.warnSounds_within {s : State} {cs : List Block} (s₁ : State) (i f : Nat) (h : s.changesOnly s₁ cs)
    (hb : [.snd] ⊆ cs) : s.changesOnly (s₁.warnSounds i f) cs := h.trans (.mono (State.warnSounds_frame _ _ _) hb)

theorem State.soundSlotStart_frame (s : State) (i f : Nat) :
    s.changesOnly (s.soundSlotStart i f) [.snd, .intake, .acct, .caps, .notice] := by
  unfold State.soundSlotStart
  try dsimp only
  all_goals repeat' with_reducible first
    | exact State.changesOnly.refl _ _
    | decide
    | refine State.modifySnd_within _ _ ?_ ?_
    | refine State.warnSounds_within _ _ _ ?_ ?_
    | refine State.takeSounds_within _ _ _ ?_ ?_

theorem State.soundSlotStart_within {s : State} {cs : List Block} (s₁ : State) (i f : Nat) (h : s.changesOnly s₁ cs)
    (hb : [.snd, .intake, .acct, .caps, .notice] ⊆ cs) : s.changesOnly (s₁.soundSlotStart i f) cs := h.trans (.mono (State.soundSlotStart_frame _ _ _) hb)

theorem State.soundStart_frame (s : State) (r : SampleRate) :
    s.changesOnly (s.soundStart r) [.snd, .caps, .notice] := by
  unfold State.soundStart
  try dsimp only
  repeat' split
  all_goals repeat' with_reducible first
    | exact State.changesOnly.refl _ _
    | decide
    | refine State.offerClamp_within _ _ _ ?_ ?_
    | refine State.modifySnd_within _ _ ?_ ?_

theorem State.soundStart_within {s : State} {cs : List Block} (s₁ : State) (r : SampleRate) (h : s.changesOnly s₁ cs)
    (hb : [.snd, .caps, .notice] ⊆ cs) : s.changesOnly (s₁.soundStart r) cs := h.trans (.mono (State.soundStart_frame _ _) hb)

theorem State.soundStop_frame (s : State) (m : Nat) :
    s.changesOnly (s.soundStop m) [.snd] := by
  unfold State.soundStop
  try dsimp only
  all_goals repeat' with_reducible first
    | exact State.changesOnly.refl _ _
    | decide
    | refine State.fadePause_within _ _ _ ?_ ?_
    | refine State.modifySnd_within _ _ ?_ ?_

theorem State.soundStop_within {s : State} {cs : List Block} (s₁ : State) (m : Nat) (h : s.changesOnly s₁ cs)
    (hb : [.snd] ⊆ cs) : s.changesOnly (s₁.soundStop m) cs := h.trans (.mono (State.soundStop_frame _ _) hb)

theorem State.gainFadeEnd_frame (s : State) (g : GainId) :
    s.changesOnly (s.gainFadeEnd g) [.snd] := by
  unfold State.gainFadeEnd
  try dsimp only
  repeat' split
  all_goals repeat' with_reducible first
    | exact State.changesOnly.refl _ _
    | decide
    | refine State.modifySnd_within _ _ ?_ ?_

theorem State.gainFadeEnd_within {s : State} {cs : List Block} (s₁ : State) (g : GainId) (h : s.changesOnly s₁ cs)
    (hb : [.snd] ⊆ cs) : s.changesOnly (s₁.gainFadeEnd g) cs := h.trans (.mono (State.gainFadeEnd_frame _ _) hb)

theorem State.modifyMeter_frame (s : State) (f : Meter → Meter) :
    s.changesOnly (s.modifyMeter f) [.meter] := by
  unfold State.modifyMeter
  try dsimp only
  all_goals repeat' with_reducible first
    | exact State.changesOnly.refl _ _
    | decide
    | refine State.setMeter_within _ _ ?_ ?_

theorem State.modifyMeter_within {s : State} {cs : List Block} (s₁ : State) (f : Meter → Meter) (h : s.changesOnly s₁ cs)
    (hb : [.meter] ⊆ cs) : s.changesOnly (s₁.modifyMeter f) cs := h.trans (.mono (State.modifyMeter_frame _ _) hb)

theorem State.triggerMeter_frame (s : State) (t : Trigger) :
    s.changesOnly (s.triggerMeter t) [.meter] := by
  unfold State.triggerMeter
  try dsimp only
  repeat' split
  all_goals repeat' with_reducible first
    | exact State.changesOnly.refl _ _
    | decide
    | refine State.modifyMeter_within _ _ ?_ ?_

theorem State.triggerMeter_within {s : State} {cs : List Block} (s₁ : State) (t : Trigger) (h : s.changesOnly s₁ cs)
    (hb : [.meter] ⊆ cs) : s.changesOnly (s₁.triggerMeter t) cs := h.trans (.mono (State.triggerMeter_frame _ _) hb)

theorem State.meterSample_frame (s : State) (l : List Int) :
    s.changesOnly (s.meterSample l) [.meter] := by
  unfold State.meterSample
  try dsimp only
  repeat' split
  all_goals repeat' with_reducible first
    | exact State.changesOnly.refl _ _
    | decide
    | refine State.modifyMeter_within _ _ ?_ ?_

theorem State.meterSample_within {s : State} {cs : List Block} (s₁ : State) (l : List Int) (h : s.changesOnly s₁ cs)
    (hb : [.meter] ⊆ cs) : s.changesOnly (s₁.meterSample l) cs := h.trans (.mono (State.meterSample_frame _ _) hb)

theorem State.reportMeter_frame (s : State) :
    s.changesOnly (s.reportMeter) [.meter, .notice] := by
  unfold State.reportMeter
  try dsimp only
  all_goals repeat' with_reducible first
    | exact State.changesOnly.refl _ _
    | decide
    | refine State.raise_within _ _ ?_ ?_
    | refine State.modifyMeter_within _ _ ?_ ?_

theorem State.reportMeter_within {s : State} {cs : List Block} (s₁ : State) (h : s.changesOnly s₁ cs)
    (hb : [.meter, .notice] ⊆ cs) : s.changesOnly (s₁.reportMeter) cs := h.trans (.mono (State.reportMeter_frame _) hb)

theorem State.silenceEvent_frame (s : State) (o : Nat) (c : SilenceChange) :
    s.changesOnly (s.silenceEvent o c) [.meter, .notice] := by
  unfold State.silenceEvent
  try dsimp only
  repeat' split
  all_goals repeat' with_reducible first
    | exact State.changesOnly.refl _ _
    | decide
    | refine State.raise_within _ _ ?_ ?_
    | refine State.modifyMeter_within _ _ ?_ ?_

theorem State.silenceEvent_within {s : State} {cs : List Block} (s₁ : State) (o : Nat) (c : SilenceChange) (h : s.changesOnly s₁ cs)
    (hb : [.meter, .notice] ⊆ cs) : s.changesOnly (s₁.silenceEvent o c) cs := h.trans (.mono (State.silenceEvent_frame _ _ _) hb)

theorem State.quietPass_frame (s : State) (o : Nat) :
    s.changesOnly (s.quietPass o) [.meter, .acct, .notice] := by
  unfold State.quietPass
  try dsimp only
  repeat' split
  all_goals repeat' with_reducible first
    | exact State.changesOnly.refl _ _
    | decide
    | refine State.setAcct_within _ _ ?_ ?_
    | refine State.silenceEvent_within _ _ _ ?_ ?_
    | refine State.modifyMeter_within _ _ ?_ ?_

theorem State.quietPass_within {s : State} {cs : List Block} (s₁ : State) (o : Nat) (h : s.changesOnly s₁ cs)
    (hb : [.meter, .acct, .notice] ⊆ cs) : s.changesOnly (s₁.quietPass o) cs := h.trans (.mono (State.quietPass_frame _ _) hb)

theorem State.loudPass_frame (s : State) (o : Nat) :
    s.changesOnly (s.loudPass o) [.meter, .notice] := by
  unfold State.loudPass
  try dsimp only
  repeat' split
  all_goals repeat' with_reducible first
    | exact State.changesOnly.refl _ _
    | decide
    | refine State.silenceEvent_within _ _ _ ?_ ?_
    | refine State.modifyMeter_within _ _ ?_ ?_

theorem State.loudPass_within {s : State} {cs : List Block} (s₁ : State) (o : Nat) (h : s.changesOnly s₁ cs)
    (hb : [.meter, .notice] ⊆ cs) : s.changesOnly (s₁.loudPass o) cs := h.trans (.mono (State.loudPass_frame _ _) hb)

theorem State.evaluateOutput_frame (s : State) (o : Nat) :
    s.changesOnly (s.evaluateOutput o) [.meter, .acct, .notice] := by
  unfold State.evaluateOutput
  try dsimp only
  repeat' split
  all_goals repeat' with_reducible first
    | exact State.changesOnly.refl _ _
    | decide
    | refine State.quietPass_within _ _ ?_ ?_
    | refine State.loudPass_within _ _ ?_ ?_

theorem State.evaluateOutput_within {s : State} {cs : List Block} (s₁ : State) (o : Nat) (h : s.changesOnly s₁ cs)
    (hb : [.meter, .acct, .notice] ⊆ cs) : s.changesOnly (s₁.evaluateOutput o) cs := h.trans (.mono (State.evaluateOutput_frame _ _) hb)

theorem State.evaluateSilence_frame (s : State) :
    s.changesOnly (s.evaluateSilence) [.meter, .acct, .notice] := by
  unfold State.evaluateSilence
  try dsimp only
  repeat' split
  all_goals repeat' with_reducible first
    | exact State.changesOnly.refl _ _
    | decide
    | refine State.foldl_within (fun _ _ => State.evaluateOutput_frame _ _) _ ?_ ?_

theorem State.evaluateSilence_within {s : State} {cs : List Block} (s₁ : State) (h : s.changesOnly s₁ cs)
    (hb : [.meter, .acct, .notice] ⊆ cs) : s.changesOnly (s₁.evaluateSilence) cs := h.trans (.mono (State.evaluateSilence_frame _) hb)

theorem State.leaveRunning_frame (s : State) :
    s.changesOnly (s.leaveRunning) [.meter] := by
  unfold State.leaveRunning
  try dsimp only
  all_goals repeat' with_reducible first
    | exact State.changesOnly.refl _ _
    | decide
    | refine State.modifyMeter_within _ _ ?_ ?_

theorem State.leaveRunning_within {s : State} {cs : List Block} (s₁ : State) (h : s.changesOnly s₁ cs)
    (hb : [.meter] ⊆ cs) : s.changesOnly (s₁.leaveRunning) cs := h.trans (.mono (State.leaveRunning_frame _) hb)

theorem State.meterWindowComplete_frame (s : State) :
    s.changesOnly (s.meterWindowComplete) [.meter, .acct, .notice] := by
  unfold State.meterWindowComplete
  try dsimp only
  repeat' split
  all_goals repeat' with_reducible first
    | exact State.changesOnly.refl _ _
    | decide
    | refine State.modifyMeter_within _ _ ?_ ?_
    | refine State.evaluateSilence_within _ ?_ ?_
    | refine State.reportMeter_within _ ?_ ?_

theorem State.meterWindowComplete_within {s : State} {cs : List Block} (s₁ : State) (h : s.changesOnly s₁ cs)
    (hb : [.meter, .acct, .notice] ⊆ cs) : s.changesOnly (s₁.meterWindowComplete) cs := h.trans (.mono (State.meterWindowComplete_frame _) hb)

theorem State.modifyCue_frame (s : State) (f : CueUnit → CueUnit) :
    s.changesOnly (s.modifyCue f) [.cue] := by
  unfold State.modifyCue
  try dsimp only
  all_goals repeat' with_reducible first
    | exact State.changesOnly.refl _ _
    | decide
    | refine State.setCue_within _ _ ?_ ?_

theorem State.modifyCue_within {s : State} {cs : List Block} (s₁ : State) (f : CueUnit → CueUnit) (h : s.changesOnly s₁ cs)
    (hb : [.cue] ⊆ cs) : s.changesOnly (s₁.modifyCue f) cs := h.trans (.mono (State.modifyCue_frame _ _) hb)

theorem State.editCues_frame (s : State) (f : List CueRecord → List CueRecord) :
    s.changesOnly (s.editCues f) [.cue] := by
  unfold State.editCues
  try dsimp only
  repeat' split
  all_goals repeat' with_reducible first
    | exact State.changesOnly.refl _ _
    | decide
    | refine State.modifyCue_within _ _ ?_ ?_

theorem State.editCues_within {s : State} {cs : List Block} (s₁ : State) (f : List CueRecord → List CueRecord) (h : s.changesOnly s₁ cs)
    (hb : [.cue] ⊆ cs) : s.changesOnly (s₁.editCues f) cs := h.trans (.mono (State.editCues_frame _ _) hb)

theorem State.cueNotice_frame (s : State) (n e f : Nat) :
    s.changesOnly (s.cueNotice n e f) [.cue, .notice] := by
  unfold State.cueNotice
  try dsimp only
  all_goals repeat' with_reducible first
    | exact State.changesOnly.refl _ _
    | decide
    | refine State.raise_within _ _ ?_ ?_
    | refine State.modifyCue_within _ _ ?_ ?_

theorem State.cueNotice_within {s : State} {cs : List Block} (s₁ : State) (n e f : Nat) (h : s.changesOnly s₁ cs)
    (hb : [.cue, .notice] ⊆ cs) : s.changesOnly (s₁.cueNotice n e f) cs := h.trans (.mono (State.cueNotice_frame _ _ _ _) hb)

theorem State.performCue_frame (s : State) (f : Nat) (c : CueRecord) :
    s.changesOnly (s.performCue f c) [.cue, .snd, .meter, .subs, .ports, .notice] := by
  unfold State.performCue
  try dsimp only
  repeat' split
  all_goals repeat' with_reducible first
    | exact State.changesOnly.refl _ _
    | decide
    | refine State.modifyCue_within _ _ ?_ ?_
    | refine State.startFade_within _ _ _ _ ?_ ?_
    | refine State.triggerMeter_within _ _ ?_ ?_
    | refine State.enableSubtitle_within _ _ _ ?_ ?_
    | refine State.cueNotice_within _ _ _ _ ?_ ?_

theorem State.performCue_within {s : State} {cs : List Block} (s₁ : State) (f : Nat) (c : CueRecord) (h : s.changesOnly s₁ cs)
    (hb : [.cue, .snd, .meter, .subs, .ports, .notice] ⊆ cs) : s.changesOnly (s₁.performCue f c) cs := h.trans (.mono (State.performCue_frame _ _ _) hb)

theorem State.fireCue_frame (f : Nat) (s : State) (c : CueRecord) :
    s.changesOnly (State.fireCue f s c) [.cue, .snd, .meter, .subs, .ports, .notice] := by
  unfold State.fireCue
  try dsimp only
  repeat' split
  all_goals repeat' with_reducible first
    | exact State.changesOnly.refl _ _
    | decide
    | refine State.modifyCue_within _ _ ?_ ?_
    | refine State.performCue_within _ _ _ ?_ ?_

theorem State.fireCue_within {s : State} {cs : List Block} (f : Nat) (s₁ : State) (c : CueRecord) (h : s.changesOnly s₁ cs)
    (hb : [.cue, .snd, .meter, .subs, .ports, .notice] ⊆ cs) : s.changesOnly (State.fireCue f s₁ c) cs := h.trans (.mono (State.fireCue_frame _ _ _) hb)

theorem State.fireCues_frame (s : State) (e t f : Nat) :
    s.changesOnly (s.fireCues e t f) [.cue, .snd, .meter, .subs, .ports, .notice] := by
  unfold State.fireCues
  try dsimp only
  all_goals repeat' with_reducible first
    | exact State.changesOnly.refl _ _
    | decide
    | refine State.foldl_within (fun _ _ => State.fireCue_frame _ _ _) _ ?_ ?_

theorem State.fireCues_within {s : State} {cs : List Block} (s₁ : State) (e t f : Nat) (h : s.changesOnly s₁ cs)
    (hb : [.cue, .snd, .meter, .subs, .ports, .notice] ⊆ cs) : s.changesOnly (s₁.fireCues e t f) cs := h.trans (.mono (State.fireCues_frame _ _ _ _) hb)

theorem State.modifyCtl_frame (s : State) (f : ShowControl → ShowControl) :
    s.changesOnly (s.modifyCtl f) [.ctl] := by
  unfold State.modifyCtl
  try dsimp only
  all_goals repeat' with_reducible first
    | exact State.changesOnly.refl _ _
    | decide
    | refine State.setCtl_within _ _ ?_ ?_

theorem State.modifyCtl_within {s : State} {cs : List Block} (s₁ : State) (f : ShowControl → ShowControl) (h : s.changesOnly s₁ cs)
    (hb : [.ctl] ⊆ cs) : s.changesOnly (s₁.modifyCtl f) cs := h.trans (.mono (State.modifyCtl_frame _ _) hb)

theorem State.modifyTl_frame (s : State) (f : Timeline → Timeline) :
    s.changesOnly (s.modifyTl f) [.tl] := by
  unfold State.modifyTl
  try dsimp only
  all_goals repeat' with_reducible first
    | exact State.changesOnly.refl _ _
    | decide
    | refine State.setTl_within _ _ ?_ ?_

theorem State.modifyTl_within {s : State} {cs : List Block} (s₁ : State) (f : Timeline → Timeline) (h : s.changesOnly s₁ cs)
    (hb : [.tl] ⊆ cs) : s.changesOnly (s₁.modifyTl f) cs := h.trans (.mono (State.modifyTl_frame _ _) hb)

theorem State.sendPicture_frame (s : State) (r : PictureRecord) :
    s.changesOnly (s.sendPicture r) [.ports] := by
  unfold State.sendPicture
  try dsimp only
  all_goals repeat' with_reducible first
    | exact State.changesOnly.refl _ _
    | decide
    | refine State.setPorts_within _ _ ?_ ?_

theorem State.sendPicture_within {s : State} {cs : List Block} (s₁ : State) (r : PictureRecord) (h : s.changesOnly s₁ cs)
    (hb : [.ports] ⊆ cs) : s.changesOnly (s₁.sendPicture r) cs := h.trans (.mono (State.sendPicture_frame _ _) hb)

theorem State.pictureEntryStart_frame (s : State) (i : Nat) (e : Entry) :
    s.changesOnly (s.pictureEntryStart i e) [.pic, .ports] := by
  unfold State.pictureEntryStart
  try dsimp only
  repeat' split
  all_goals repeat' with_reducible first
    | exact State.changesOnly.refl _ _
    | decide
    | refine State.setPic_within _ _ ?_ ?_
    | refine State.sendPicture_within _ _ ?_ ?_

theorem State.pictureEntryStart_within {s : State} {cs : List Block} (s₁ : State) (i : Nat) (e : Entry) (h : s.changesOnly s₁ cs)
    (hb : [.pic, .ports] ⊆ cs) : s.changesOnly (s₁.pictureEntryStart i e) cs := h.trans (.mono (State.pictureEntryStart_frame _ _ _) hb)

theorem State.pictureSlotStart_frame (s : State) (i f : Nat) :
    s.changesOnly (s.pictureSlotStart i f) [.pic, .ports, .intake, .acct, .caps, .notice] := by
  unfold State.pictureSlotStart
  try dsimp only
  repeat' split
  all_goals have h := State.take_eq_frame ‹_›
  all_goals repeat' with_reducible first
    | exact State.changesOnly.refl _ _
    | decide
    | refine State.changesOnly.mono h ?_
    | refine State.setPic_within _ _ ?_ ?_
    | refine State.sendPicture_within _ _ ?_ ?_
    | refine State.setAcct_within _ _ ?_ ?_

theorem State.pictureSlotStart_within {s : State} {cs : List Block} (s₁ : State) (i f : Nat) (h : s.changesOnly s₁ cs)
    (hb : [.pic, .ports, .intake, .acct, .caps, .notice] ⊆ cs) : s.changesOnly (s₁.pictureSlotStart i f) cs := h.trans (.mono (State.pictureSlotStart_frame _ _ _) hb)

theorem State.pictureEnd_frame (s : State) :
    s.changesOnly (s.pictureEnd) [.pic, .ports] := by
  unfold State.pictureEnd
  try dsimp only
  repeat' split
  all_goals repeat' with_reducible first
    | exact State.changesOnly.refl _ _
    | decide
    | refine State.setPic_within _ _ ?_ ?_
    | refine State.sendPicture_within _ _ ?_ ?_

theorem State.pictureEnd_within {s : State} {cs : List Block} (s₁ : State) (h : s.changesOnly s₁ cs)
    (hb : [.pic, .ports] ⊆ cs) : s.changesOnly (s₁.pictureEnd) cs := h.trans (.mono (State.pictureEnd_frame _) hb)

theorem State.enterStopping_frame (s : State) (o : ShowOutcome) :
    s.changesOnly (s.enterStopping o) [.tl, .snd, .intake, .subs, .ports, .pic, .ctl, .meter, .notice] := by
  unfold State.enterStopping
  try dsimp only
  all_goals repeat' with_reducible first
    | exact State.changesOnly.refl _ _
    | decide
    | refine State.showEvent_within _ _ _ ?_ ?_
    | refine State.leaveRunning_within _ ?_ ?_
    | refine State.modifyCtl_within _ _ ?_ ?_
    | refine State.pictureEnd_within _ ?_ ?_
    | refine State.stopSubtitles_within _ ?_ ?_
    | refine State.purge_within _ ?_ ?_
    | refine State.soundStop_within _ _ ?_ ?_
    | refine State.modifyTl_within _ _ ?_ ?_

theorem State.enterStopping_within {s : State} {cs : List Block} (s₁ : State) (o : ShowOutcome) (h : s.changesOnly s₁ cs)
    (hb : [.tl, .snd, .intake, .subs, .ports, .pic, .ctl, .meter, .notice] ⊆ cs) : s.changesOnly (s₁.enterStopping o) cs := h.trans (.mono (State.enterStopping_frame _ _) hb)

theorem State.slotStart_frame (s : State) (i f : Nat) :
    s.changesOnly (s.slotStart i f) [.pic, .ports, .intake, .acct, .caps, .notice, .snd, .cue, .meter, .subs, .freeCount] := by
  unfold State.slotStart
  try dsimp only
  repeat' split
  all_goals repeat' with_reducible first
    | exact State.changesOnly.refl _ _
    | decide
    | refine State.fireCues_within _ _ _ _ ?_ ?_
    | refine State.subtitleSlotStart_within _ _ _ ?_ ?_
    | refine State.chose_within _ ?_ ?_
    | refine State.soundSlotStart_within _ _ _ ?_ ?_
    | refine State.pictureSlotStart_within _ _ _ ?_ ?_

theorem State.slotStart_within {s : State} {cs : List Block} (s₁ : State) (i f : Nat) (h : s.changesOnly s₁ cs)
    (hb : [.pic, .ports, .intake, .acct, .caps, .notice, .snd, .cue, .meter, .subs, .freeCount] ⊆ cs) : s.changesOnly (s₁.slotStart i f) cs := h.trans (.mono (State.slotStart_frame _ _ _) hb)

theorem State.reelStart_frame (s : State) (r : Nat) :
    s.changesOnly (s.reelStart r) [.tl, .intake, .subs, .acct, .ctl, .caps, .notice] := by
  unfold State.reelStart
  try dsimp only
  all_goals repeat' with_reducible first
    | exact State.changesOnly.refl _ _
    | decide
    | refine State.deliverHeld_within _ ?_ ?_
    | refine State.subtitleReelStart_within _ _ ?_ ?_
    | refine State.modifyTl_within _ _ ?_ ?_

theorem State.reelStart_within {s : State} {cs : List Block} (s₁ : State) (r : Nat) (h : s.changesOnly s₁ cs)
    (hb : [.tl, .intake, .subs, .acct, .ctl, .caps, .notice] ⊆ cs) : s.changesOnly (s₁.reelStart r) cs := h.trans (.mono (State.reelStart_frame _ _) hb)

theorem State.announceEntry_frame (s : State) (i : Nat) (e : Entry) :
    s.changesOnly (s.announceEntry i e) [.pic, .ports, .intake, .acct, .caps, .notice, .snd, .cue, .meter, .subs, .freeCount, .tl, .ctl] := by
  unfold State.announceEntry
  try dsimp only
  all_goals repeat' with_reducible first
    | exact State.changesOnly.refl _ _
    | decide
    | refine State.slotStart_within _ _ _ ?_ ?_
    | refine State.reelStart_within _ _ ?_ ?_
    | refine State.subtitleEntryStart_within _ ?_ ?_
    | refine State.setAcct_within _ _ ?_ ?_
    | refine State.modifyCue_within _ _ ?_ ?_
    | refine State.modifySnd_within _ _ ?_ ?_
    | refine State.pictureEntryStart_within _ _ _ ?_ ?_

theorem State.announceEntry_within {s : State} {cs : List Block} (s₁ : State) (i : Nat) (e : Entry) (h : s.changesOnly s₁ cs)
    (hb : [.pic, .ports, .intake, .acct, .caps, .notice, .snd, .cue, .meter, .subs, .freeCount, .tl, .ctl] ⊆ cs) : s.changesOnly (s₁.announceEntry i e) cs := h.trans (.mono (State.announceEntry_frame _ _ _) hb)

theorem State.entryEnd_frame (s : State) :
    s.changesOnly (s.entryEnd) [.pic, .ports, .intake, .acct, .caps, .notice, .snd, .cue, .meter, .subs, .freeCount, .tl, .ctl] := by
  unfold State.entryEnd
  try dsimp only
  repeat' split
  all_goals repeat' with_reducible first
    | exact State.changesOnly.refl _ _
    | decide
    | refine State.announceEntry_within _ _ _ ?_ ?_
    | refine State.enterStopping_within _ _ ?_ ?_
    | refine State.modifyTl_within _ _ ?_ ?_
    | refine State.setAcct_within _ _ ?_ ?_
    | refine State.fireCues_within _ _ _ _ ?_ ?_

theorem State.entryEnd_within {s : State} {cs : List Block} (s₁ : State) (h : s.changesOnly s₁ cs)
    (hb : [.pic, .ports, .intake, .acct, .caps, .notice, .snd, .cue, .meter, .subs, .freeCount, .tl, .ctl] ⊆ cs) : s.changesOnly (s₁.entryEnd) cs := h.trans (.mono (State.entryEnd_frame _) hb)

theorem State.slotEnd_frame (s : State) :
    s.changesOnly (s.slotEnd) [.keys, .notice, .acct] := by
  unfold State.slotEnd
  try dsimp only
  repeat' split
  all_goals repeat' with_reducible first
    | exact State.changesOnly.refl _ _
    | decide
    | refine State.chargeEntry_within _ _ ?_ ?_

theorem State.slotEnd_within {s : State} {cs : List Block} (s₁ : State) (h : s.changesOnly s₁ cs)
    (hb : [.keys, .notice, .acct] ⊆ cs) : s.changesOnly (s₁.slotEnd) cs := h.trans (.mono (State.slotEnd_frame _) hb)

theorem State.nextSlot_frame (s : State) :
    s.changesOnly (s.nextSlot) [.pic, .ports, .intake, .acct, .caps, .notice, .snd, .cue, .meter, .subs, .freeCount, .tl, .ctl] := by
  unfold State.nextSlot
  try dsimp only
  repeat' split
  all_goals repeat' with_reducible first
    | exact State.changesOnly.refl _ _
    | decide
    | refine State.slotStart_within _ _ _ ?_ ?_
    | refine State.reelStart_within _ _ ?_ ?_
    | refine State.modifyTl_within _ _ ?_ ?_

theorem State.nextSlot_within {s : State} {cs : List Block} (s₁ : State) (h : s.changesOnly s₁ cs)
    (hb : [.pic, .ports, .intake, .acct, .caps, .notice, .snd, .cue, .meter, .subs, .freeCount, .tl, .ctl] ⊆ cs) : s.changesOnly (s₁.nextSlot) cs := h.trans (.mono (State.nextSlot_frame _) hb)

theorem State.chain_frame (s : State) :
    s.changesOnly (s.chain) [.pic, .ports, .intake, .acct, .caps, .notice, .snd, .cue, .meter, .subs, .freeCount, .tl, .ctl, .keys] := by
  unfold State.chain
  try dsimp only
  repeat' split
  all_goals repeat' with_reducible first
    | exact State.changesOnly.refl _ _
    | decide
    | refine State.nextSlot_within _ ?_ ?_
    | refine State.entryEnd_within _ ?_ ?_
    | refine State.slotEnd_within _ ?_ ?_

theorem State.chain_within {s : State} {cs : List Block} (s₁ : State) (h : s.changesOnly s₁ cs)
    (hb : [.pic, .ports, .intake, .acct, .caps, .notice, .snd, .cue, .meter, .subs, .freeCount, .tl, .ctl, .keys] ⊆ cs) : s.changesOnly (s₁.chain) cs := h.trans (.mono (State.chain_frame _) hb)

theorem State.startShow_frame (s : State) :
    s.changesOnly (s.startShow) [.pic, .ports, .intake, .acct, .caps, .notice, .snd, .cue, .meter, .subs, .freeCount, .tl, .ctl] := by
  unfold State.startShow
  try dsimp only
  repeat' split
  all_goals repeat' with_reducible first
    | exact State.changesOnly.refl _ _
    | decide
    | refine State.showEvent_within _ _ _ ?_ ?_
    | refine State.announceEntry_within _ _ _ ?_ ?_
    | refine State.soundStart_within _ _ ?_ ?_
    | refine State.modifyTl_within _ _ ?_ ?_
    | refine State.setAcct_within _ _ ?_ ?_
    | refine State.modifyCtl_within _ _ ?_ ?_

theorem State.startShow_within {s : State} {cs : List Block} (s₁ : State) (h : s.changesOnly s₁ cs)
    (hb : [.pic, .ports, .intake, .acct, .caps, .notice, .snd, .cue, .meter, .subs, .freeCount, .tl, .ctl] ⊆ cs) : s.changesOnly (s₁.startShow) cs := h.trans (.mono (State.startShow_frame _) hb)

theorem State.attemptStart_frame (s : State) :
    s.changesOnly (s.attemptStart) [.pic, .ports, .intake, .acct, .caps, .notice, .snd, .cue, .meter, .subs, .freeCount, .tl, .ctl] := by
  unfold State.attemptStart
  try dsimp only
  repeat' split
  all_goals repeat' with_reducible first
    | exact State.changesOnly.refl _ _
    | decide
    | refine State.startShow_within _ ?_ ?_
    | refine State.showEvent_within _ _ _ ?_ ?_

theorem State.attemptStart_within {s : State} {cs : List Block} (s₁ : State) (h : s.changesOnly s₁ cs)
    (hb : [.pic, .ports, .intake, .acct, .caps, .notice, .snd, .cue, .meter, .subs, .freeCount, .tl, .ctl] ⊆ cs) : s.changesOnly (s₁.attemptStart) cs := h.trans (.mono (State.attemptStart_frame _) hb)

theorem State.scheduledStart_frame (s : State) :
    s.changesOnly (s.scheduledStart) [.pic, .ports, .intake, .acct, .caps, .notice, .snd, .cue, .meter, .subs, .freeCount, .tl, .ctl] := by
  unfold State.scheduledStart
  try dsimp only
  repeat' split
  all_goals repeat' with_reducible first
    | exact State.changesOnly.refl _ _
    | decide
    | refine State.attemptStart_within _ ?_ ?_
    | refine State.modifyCtl_within _ _ ?_ ?_

theorem State.scheduledStart_within {s : State} {cs : List Block} (s₁ : State) (h : s.changesOnly s₁ cs)
    (hb : [.pic, .ports, .intake, .acct, .caps, .notice, .snd, .cue, .meter, .subs, .freeCount, .tl, .ctl] ⊆ cs) : s.changesOnly (s₁.scheduledStart) cs := h.trans (.mono (State.scheduledStart_frame _) hb)

theorem State.pauseShow_frame (s : State) :
    s.changesOnly (s.pauseShow) [.ctl, .tl, .snd, .meter, .notice] := by
  unfold State.pauseShow
  try dsimp only
  repeat' split
  all_goals repeat' with_reducible first
    | exact State.changesOnly.refl _ _
    | decide
    | refine State.showEvent_within _ _ _ ?_ ?_
    | refine State.leaveRunning_within _ ?_ ?_
    | refine State.fadePause_within _ _ _ ?_ ?_
    | refine State.modifyTl_within _ _ ?_ ?_
    | refine State.modifyCtl_within _ _ ?_ ?_

theorem State.pauseShow_within {s : State} {cs : List Block} (s₁ : State) (h : s.changesOnly s₁ cs)
    (hb : [.ctl, .tl, .snd, .meter, .notice] ⊆ cs) : s.changesOnly (s₁.pauseShow) cs := h.trans (.mono (State.pauseShow_frame _) hb)

theorem State.resumeShow_frame (s : State) :
    s.changesOnly (s.resumeShow) [.ctl, .tl, .snd, .notice] := by
  unfold State.resumeShow
  try dsimp only
  all_goals repeat' with_reducible first
    | exact State.changesOnly.refl _ _
    | decide
    | refine State.showEvent_within _ _ _ ?_ ?_
    | refine State.fadePause_within _ _ _ ?_ ?_
    | refine State.modifyTl_within _ _ ?_ ?_
    | refine State.modifyCtl_within _ _ ?_ ?_

theorem State.resumeShow_within {s : State} {cs : List Block} (s₁ : State) (h : s.changesOnly s₁ cs)
    (hb : [.ctl, .tl, .snd, .notice] ⊆ cs) : s.changesOnly (s₁.resumeShow) cs := h.trans (.mono (State.resumeShow_frame _) hb)

theorem State.disarm_frame (s : State) (c : ShowCode) :
    s.changesOnly (s.disarm c) [.ctl, .keys, .intake, .subs, .notice] := by
  unfold State.disarm
  try dsimp only
  all_goals repeat' with_reducible first
    | exact State.changesOnly.refl _ _
    | decide
    | refine State.showEvent_within _ _ _ ?_ ?_
    | refine State.modifyCtl_within _ _ ?_ ?_
    | refine State.setKeys_within _ _ ?_ ?_
    | refine State.discardTables_within _ ?_ ?_
    | refine State.purge_within _ ?_ ?_

theorem State.disarm_within {s : State} {cs : List Block} (s₁ : State) (c : ShowCode) (h : s.changesOnly s₁ cs)
    (hb : [.ctl, .keys, .intake, .subs, .notice] ⊆ cs) : s.changesOnly (s₁.disarm c) cs := h.trans (.mono (State.disarm_frame _ _) hb)

theorem State.stopShow_frame (s : State) :
    s.changesOnly (s.stopShow) [.tl, .snd, .intake, .subs, .ports, .pic, .ctl, .meter, .notice, .keys] := by
  unfold State.stopShow
  try dsimp only
  repeat' split
  all_goals repeat' with_reducible first
    | exact State.changesOnly.refl _ _
    | decide
    | refine State.disarm_within _ _ ?_ ?_
    | refine State.enterStopping_within _ _ ?_ ?_

theorem State.stopShow_within {s : State} {cs : List Block} (s₁ : State) (h : s.changesOnly s₁ cs)
    (hb : [.tl, .snd, .intake, .subs, .ports, .pic, .ctl, .meter, .notice, .keys] ⊆ cs) : s.changesOnly (s₁.stopShow) cs := h.trans (.mono (State.stopShow_frame _) hb)

theorem State.haltShow_frame (s : State) :
    s.changesOnly (s.haltShow) [.cue, .tl, .snd, .intake, .subs, .ports, .pic, .ctl, .meter, .notice] := by
  unfold State.haltShow
  try dsimp only
  repeat' split
  all_goals repeat' with_reducible first
    | exact State.changesOnly.refl _ _
    | decide
    | refine State.enterStopping_within _ _ ?_ ?_
    | refine State.fadePause_within _ _ _ ?_ ?_
    | refine State.modifyCtl_within _ _ ?_ ?_
    | refine State.modifyCue_within _ _ ?_ ?_

theorem State.haltShow_within {s : State} {cs : List Block} (s₁ : State) (h : s.changesOnly s₁ cs)
    (hb : [.cue, .tl, .snd, .intake, .subs, .ports, .pic, .ctl, .meter, .notice] ⊆ cs) : s.changesOnly (s₁.haltShow) cs := h.trans (.mono (State.haltShow_frame _) hb)

theorem State.stopComplete_frame (s : State) :
    s.changesOnly (s.stopComplete) [.acct, .snd, .keys, .cue, .ctl, .tl, .notice] := by
  unfold State.stopComplete
  try dsimp only
  repeat' split
  all_goals repeat' with_reducible first
    | exact State.changesOnly.refl _ _
    | decide
    | refine State.showEvent_within _ _ _ ?_ ?_
    | refine State.modifyTl_within _ _ ?_ ?_
    | refine State.modifyCtl_within _ _ ?_ ?_
    | refine State.modifyCue_within _ _ ?_ ?_
    | refine State.setKeys_within _ _ ?_ ?_
    | refine State.modifySnd_within _ _ ?_ ?_
    | refine State.examineLog_within _ ?_ ?_
    | refine State.setAcct_within _ _ ?_ ?_

theorem State.stopComplete_within {s : State} {cs : List Block} (s₁ : State) (h : s.changesOnly s₁ cs)
    (hb : [.acct, .snd, .keys, .cue, .ctl, .tl, .notice] ⊆ cs) : s.changesOnly (s₁.stopComplete) cs := h.trans (.mono (State.stopComplete_frame _) hb)

theorem State.armExpiry_frame (s : State) :
    s.changesOnly (s.armExpiry) [.ctl, .keys, .intake, .subs, .notice] := by
  unfold State.armExpiry
  try dsimp only
  repeat' split
  all_goals repeat' with_reducible first
    | exact State.changesOnly.refl _ _
    | decide
    | refine State.disarm_within _ _ ?_ ?_

theorem State.armExpiry_within {s : State} {cs : List Block} (s₁ : State) (h : s.changesOnly s₁ cs)
    (hb : [.ctl, .keys, .intake, .subs, .notice] ⊆ cs) : s.changesOnly (s₁.armExpiry) cs := h.trans (.mono (State.armExpiry_frame _) hb)

theorem State.pauseExpiry_frame (s : State) :
    s.changesOnly (s.pauseExpiry) [.tl, .snd, .intake, .subs, .ports, .pic, .ctl, .meter, .notice] := by
  unfold State.pauseExpiry
  try dsimp only
  repeat' split
  all_goals repeat' with_reducible first
    | exact State.changesOnly.refl _ _
    | decide
    | refine State.enterStopping_within _ _ ?_ ?_

theorem State.pauseExpiry_within {s : State} {cs : List Block} (s₁ : State) (h : s.changesOnly s₁ cs)
    (hb : [.tl, .snd, .intake, .subs, .ports, .pic, .ctl, .meter, .notice] ⊆ cs) : s.changesOnly (s₁.pauseExpiry) cs := h.trans (.mono (State.pauseExpiry_frame _) hb)

theorem State.settleSamples_frame (s : State) :
    s.changesOnly (s.settleSamples) [.acct, .snd, .keys, .cue, .ctl, .tl, .notice, .meter, .link] := by
  unfold State.settleSamples
  try dsimp only
  all_goals repeat' with_reducible first
    | exact State.changesOnly.refl _ _
    | decide
    | refine State.endEvent_within _ _ ?_ ?_
    | refine State.stopComplete_within _ ?_ ?_
    | refine State.meterWindowComplete_within _ ?_ ?_
    | refine State.modifySnd_within _ _ ?_ ?_

theorem State.settleSamples_within {s : State} {cs : List Block} (s₁ : State) (h : s.changesOnly s₁ cs)
    (hb : [.acct, .snd, .keys, .cue, .ctl, .tl, .notice, .meter, .link] ⊆ cs) : s.changesOnly (s₁.settleSamples) cs := h.trans (.mono (State.settleSamples_frame _) hb)

theorem State.takeSample_frame (s : State) :
    s.changesOnly (s.takeSample) [.pic, .ports, .intake, .acct, .caps, .notice, .snd, .cue, .meter, .subs, .freeCount, .tl, .ctl, .keys, .link] := by
  unfold State.takeSample
  try dsimp only
  repeat' split
  all_goals repeat' with_reducible first
    | exact State.changesOnly.refl _ _
    | decide
    | refine State.endEvent_within _ _ ?_ ?_
    | refine State.chain_within _ ?_ ?_
    | refine State.meterWindowComplete_within _ ?_ ?_
    | refine State.chose_within _ ?_ ?_
    | refine State.modifyTl_within _ _ ?_ ?_

theorem State.takeSample_within {s : State} {cs : List Block} (s₁ : State) (h : s.changesOnly s₁ cs)
    (hb : [.pic, .ports, .intake, .acct, .caps, .notice, .snd, .cue, .meter, .subs, .freeCount, .tl, .ctl, .keys, .link] ⊆ cs) : s.changesOnly (s₁.takeSample) cs := h.trans (.mono (State.takeSample_frame _) hb)

theorem State.samplePeriod_frame (s : State) :
    s.changesOnly (s.samplePeriod) [.pic, .ports, .intake, .acct, .caps, .notice, .snd, .cue, .meter, .subs, .freeCount, .tl, .ctl, .keys, .link] := by
  unfold State.samplePeriod
  try dsimp only
  all_goals repeat' with_reducible first
    | exact State.changesOnly.refl _ _
    | decide
    | refine State.takeSample_within _ ?_ ?_
    | refine State.modifyCue_within _ _ ?_ ?_
    | refine State.meterSample_within _ _ ?_ ?_
    | refine State.modifySnd_within _ _ ?_ ?_
    | refine State.settleSamples_within _ ?_ ?_

theorem State.samplePeriod_within {s : State} {cs : List Block} (s₁ : State) (h : s.changesOnly s₁ cs)
    (hb : [.pic, .ports, .intake, .acct, .caps, .notice, .snd, .cue, .meter, .subs, .freeCount, .tl, .ctl, .keys, .link] ⊆ cs) : s.changesOnly (s₁.samplePeriod) cs := h.trans (.mono (State.samplePeriod_frame _) hb)

theorem State.captureInput_frame (s : State) (n : Nat) (e : Edge) :
    s.changesOnly (s.captureInput n e) [.cue] := by
  unfold State.captureInput
  try dsimp only
  all_goals repeat' with_reducible first
    | exact State.changesOnly.refl _ _
    | decide
    | refine State.modifyCue_within _ _ ?_ ?_

theorem State.captureInput_within {s : State} {cs : List Block} (s₁ : State) (n : Nat) (e : Edge) (h : s.changesOnly s₁ cs)
    (hb : [.cue] ⊆ cs) : s.changesOnly (s₁.captureInput n e) cs := h.trans (.mono (State.captureInput_frame _ _ _) hb)

theorem State.reportInput_frame (s : State) (n : Nat) (e : Edge) (a : InputAction) (r : InputResult) :
    s.changesOnly (s.reportInput n e a r) [.cue, .notice] := by
  unfold State.reportInput
  try dsimp only
  all_goals repeat' with_reducible first
    | exact State.changesOnly.refl _ _
    | decide
    | refine State.raise_within _ _ ?_ ?_
    | refine State.modifyCue_within _ _ ?_ ?_

theorem State.reportInput_within {s : State} {cs : List Block} (s₁ : State) (n : Nat) (e : Edge) (a : InputAction) (r : InputResult) (h : s.changesOnly s₁ cs)
    (hb : [.cue, .notice] ⊆ cs) : s.changesOnly (s₁.reportInput n e a r) cs := h.trans (.mono (State.reportInput_frame _ _ _ _ _) hb)

theorem State.startInput_frame (s : State) :
    s.changesOnly (s.startInput.1) [.pic, .ports, .intake, .acct, .caps, .notice, .snd, .cue, .meter, .subs, .freeCount, .tl, .ctl] := by
  unfold State.startInput
  try dsimp only
  repeat' split
  all_goals repeat' with_reducible first
    | exact State.changesOnly.refl _ _
    | decide
    | refine State.attemptStart_within _ ?_ ?_

theorem State.startInput_within {s : State} {cs : List Block} (s₁ : State) (h : s.changesOnly s₁ cs)
    (hb : [.pic, .ports, .intake, .acct, .caps, .notice, .snd, .cue, .meter, .subs, .freeCount, .tl, .ctl] ⊆ cs) : s.changesOnly (s₁.startInput.1) cs := h.trans (.mono (State.startInput_frame _) hb)

theorem State.inputAction_frame (s : State) (a : InputAction) :
    s.changesOnly ((s.inputAction a).1) [.pic, .ports, .intake, .acct, .caps, .notice, .snd, .cue, .meter, .subs, .freeCount, .tl, .ctl, .keys] := by
  unfold State.inputAction
  simp only [State.actIf]
  try dsimp only
  repeat' split
  all_goals repeat' with_reducible first
    | exact State.changesOnly.refl _ _
    | decide
    | refine State.startInput_within _ ?_ ?_
    | refine State.haltShow_within _ ?_ ?_
    | refine State.pauseShow_within _ ?_ ?_
    | refine State.resumeShow_within _ ?_ ?_
    | refine State.stopShow_within _ ?_ ?_
    | refine State.triggerMeter_within _ _ ?_ ?_

theorem State.inputAction_within {s : State} {cs : List Block} (s₁ : State) (a : InputAction) (h : s.changesOnly s₁ cs)
    (hb : [.pic, .ports, .intake, .acct, .caps, .notice, .snd, .cue, .meter, .subs, .freeCount, .tl, .ctl, .keys] ⊆ cs) : s.changesOnly ((s₁.inputAction a).1) cs := h.trans (.mono (State.inputAction_frame _ _) hb)

theorem State.acceptEdge_frame (s : State) (n : Nat) (x : BoothInput) (e : Edge) :
    s.changesOnly (s.acceptEdge n x e) [.pic, .ports, .intake, .acct, .caps, .notice, .snd, .cue, .meter, .subs, .freeCount, .tl, .ctl, .keys, .link] := by
  unfold State.acceptEdge
  try dsimp only
  repeat' split
  all_goals repeat' with_reducible first
    | exact State.changesOnly.refl _ _
    | decide
    | refine State.endEvent_within _ _ ?_ ?_
    | refine State.reportInput_within _ _ _ _ _ ?_ ?_
    | refine State.inputAction_within _ _ ?_ ?_
    | refine State.captureInput_within _ _ _ ?_ ?_

theorem State.acceptEdge_within {s : State} {cs : List Block} (s₁ : State) (n : Nat) (x : BoothInput) (e : Edge) (h : s.changesOnly s₁ cs)
    (hb : [.pic, .ports, .intake, .acct, .caps, .notice, .snd, .cue, .meter, .subs, .freeCount, .tl, .ctl, .keys, .link] ⊆ cs) : s.changesOnly (s₁.acceptEdge n x e) cs := h.trans (.mono (State.acceptEdge_frame _ _ _ _) hb)

theorem State.sampleInput_frame (l : BitVec 8) (s : State) (n : Nat) :
    s.changesOnly (State.sampleInput l s n) [.pic, .ports, .intake, .acct, .caps, .notice, .snd, .cue, .meter, .subs, .freeCount, .tl, .ctl, .keys, .link] := by
  unfold State.sampleInput
  try dsimp only
  repeat' split
  all_goals repeat' with_reducible first
    | exact State.changesOnly.refl _ _
    | decide
    | refine State.acceptEdge_within _ _ _ _ ?_ ?_
    | refine State.modifyCue_within _ _ ?_ ?_

theorem State.sampleInput_within {s : State} {cs : List Block} (l : BitVec 8) (s₁ : State) (n : Nat) (h : s.changesOnly s₁ cs)
    (hb : [.pic, .ports, .intake, .acct, .caps, .notice, .snd, .cue, .meter, .subs, .freeCount, .tl, .ctl, .keys, .link] ⊆ cs) : s.changesOnly (State.sampleInput l s₁ n) cs := h.trans (.mono (State.sampleInput_frame _ _ _) hb)

theorem State.sampleInputs_frame (s : State) (l : BitVec 8) :
    s.changesOnly (s.sampleInputs l) [.pic, .ports, .intake, .acct, .caps, .notice, .snd, .cue, .meter, .subs, .freeCount, .tl, .ctl, .keys, .link] := by
  unfold State.sampleInputs
  try dsimp only
  all_goals repeat' with_reducible first
    | exact State.changesOnly.refl _ _
    | decide
    | refine State.foldl_within (fun _ _ => State.sampleInput_frame _ _ _) _ ?_ ?_

theorem State.sampleInputs_within {s : State} {cs : List Block} (s₁ : State) (l : BitVec 8) (h : s.changesOnly s₁ cs)
    (hb : [.pic, .ports, .intake, .acct, .caps, .notice, .snd, .cue, .meter, .subs, .freeCount, .tl, .ctl, .keys, .link] ⊆ cs) : s.changesOnly (s₁.sampleInputs l) cs := h.trans (.mono (State.sampleInputs_frame _ _) hb)

theorem State.beginMillisecond_frame (s : State) :
    s.changesOnly (s.beginMillisecond) [.cue] := by
  unfold State.beginMillisecond
  try dsimp only
  repeat' split
  all_goals repeat' with_reducible first
    | exact State.changesOnly.refl _ _
    | decide
    | refine State.modifyCue_within _ _ ?_ ?_

theorem State.beginMillisecond_within {s : State} {cs : List Block} (s₁ : State) (h : s.changesOnly s₁ cs)
    (hb : [.cue] ⊆ cs) : s.changesOnly (s₁.beginMillisecond) cs := h.trans (.mono (State.beginMillisecond_frame _) hb)

theorem State.countDown_frame (s : State) :
    s.changesOnly (s.countDown) [.cue, .ctl, .intake] := by
  unfold State.countDown
  try dsimp only
  all_goals repeat' with_reducible first
    | exact State.changesOnly.refl _ _
    | decide
    | refine State.setIntake_within _ _ ?_ ?_
    | refine State.modifyCtl_within _ _ ?_ ?_
    | refine State.modifyCue_within _ _ ?_ ?_

theorem State.countDown_within {s : State} {cs : List Block} (s₁ : State) (h : s.changesOnly s₁ cs)
    (hb : [.cue, .ctl, .intake] ⊆ cs) : s.changesOnly (s₁.countDown) cs := h.trans (.mono (State.countDown_frame _) hb)

theorem State.timeoutEvent_frame (s : State) (i : Nat) :
    s.changesOnly ((s.storageTimeout i).endEvent) [.intake, .subs, .acct, .ctl, .caps, .notice, .link] :=
  State.endEvent_within _ _ ((State.storageTimeout_frame s i).mono (by decide)) (by decide)

theorem State.settleTimers_frame (s : State) :
    s.changesOnly (s.settleTimers) [.pic, .ports, .intake, .acct, .caps, .notice, .snd, .cue, .meter, .subs, .freeCount, .tl, .ctl, .keys, .link] := by
  unfold State.settleTimers
  try dsimp only
  all_goals repeat' with_reducible first
    | exact State.changesOnly.refl _ _
    | decide
    | refine State.endEvent_within _ _ ?_ ?_
    | refine State.foldl_within State.timeoutEvent_frame _ ?_ ?_
    | refine State.pauseExpiry_within _ ?_ ?_
    | refine State.armExpiry_within _ ?_ ?_
    | refine State.modifyCue_within _ _ ?_ ?_

theorem State.settleTimers_within {s : State} {cs : List Block} (s₁ : State) (h : s.changesOnly s₁ cs)
    (hb : [.pic, .ports, .intake, .acct, .caps, .notice, .snd, .cue, .meter, .subs, .freeCount, .tl, .ctl, .keys, .link] ⊆ cs) : s.changesOnly (s₁.settleTimers) cs := h.trans (.mono (State.settleTimers_frame _) hb)

theorem State.millisecond_frame (s : State) (l : BitVec 8) :
    s.changesOnly (s.millisecond l) [.pic, .ports, .intake, .acct, .caps, .notice, .snd, .cue, .meter, .subs, .freeCount, .tl, .ctl, .keys, .link] := by
  unfold State.millisecond
  try dsimp only
  repeat' split
  all_goals repeat' with_reducible first
    | exact State.changesOnly.refl _ _
    | decide
    | refine State.sampleInputs_within _ _ ?_ ?_
    | refine State.settleTimers_within _ ?_ ?_
    | refine State.chose_within _ ?_ ?_
    | refine State.countDown_within _ ?_ ?_
    | refine State.beginMillisecond_within _ ?_ ?_

theorem State.millisecond_within {s : State} {cs : List Block} (s₁ : State) (l : BitVec 8) (h : s.changesOnly s₁ cs)
    (hb : [.pic, .ports, .intake, .acct, .caps, .notice, .snd, .cue, .meter, .subs, .freeCount, .tl, .ctl, .keys, .link] ⊆ cs) : s.changesOnly (s₁.millisecond l) cs := h.trans (.mono (State.millisecond_frame _ _) hb)

theorem State.modifyPwr_frame (s : State) (f : Power → Power) :
    s.changesOnly (s.modifyPwr f) [.pwr] := by
  unfold State.modifyPwr
  try dsimp only
  all_goals repeat' with_reducible first
    | exact State.changesOnly.refl _ _
    | decide
    | refine State.setPwr_within _ _ ?_ ?_

theorem State.modifyPwr_within {s : State} {cs : List Block} (s₁ : State) (f : Power → Power) (h : s.changesOnly s₁ cs)
    (hb : [.pwr] ⊆ cs) : s.changesOnly (s₁.modifyPwr f) cs := h.trans (.mono (State.modifyPwr_frame _ _) hb)

theorem State.modifyLink_frame (s : State) (f : Link → Link) :
    s.changesOnly (s.modifyLink f) [.link] := by
  unfold State.modifyLink
  try dsimp only
  all_goals repeat' with_reducible first
    | exact State.changesOnly.refl _ _
    | decide
    | refine State.setLink_within _ _ ?_ ?_

theorem State.modifyLink_within {s : State} {cs : List Block} (s₁ : State) (f : Link → Link) (h : s.changesOnly s₁ cs)
    (hb : [.link] ⊆ cs) : s.changesOnly (s₁.modifyLink f) cs := h.trans (.mono (State.modifyLink_frame _ _) hb)

theorem State.resetBlocks_frame (s : State) (w : Option WakeCause) :
    s.changesOnly (s.resetBlocks w) [.tl, .ctl, .keys, .intake, .pic, .snd, .meter, .subs, .cue, .acct, .caps, .notice, .pwr, .link, .ports] := by
  intro b hb; cases b <;> first | rfl | simp at hb

theorem State.resetBlocks_within {s : State} {cs : List Block} (s₁ : State) (w : Option WakeCause) (h : s.changesOnly s₁ cs)
    (hb : [.tl, .ctl, .keys, .intake, .pic, .snd, .meter, .subs, .cue, .acct, .caps, .notice, .pwr, .link, .ports] ⊆ cs) : s.changesOnly (s₁.resetBlocks w) cs := h.trans (.mono (State.resetBlocks_frame _ _) hb)

theorem State.restartPart_frame (s : State) (w : Option WakeCause) :
    s.changesOnly (s.restartPart w) [.tl, .ctl, .keys, .intake, .pic, .snd, .meter, .subs, .cue, .acct, .caps, .notice, .pwr, .link, .ports] := by
  unfold State.restartPart
  try dsimp only
  repeat' split
  all_goals repeat' with_reducible first
    | exact State.changesOnly.refl _ _
    | decide
    | refine State.raise_within _ _ ?_ ?_
    | refine State.resetBlocks_within _ _ ?_ ?_

theorem State.restartPart_within {s : State} {cs : List Block} (s₁ : State) (w : Option WakeCause) (h : s.changesOnly s₁ cs)
    (hb : [.tl, .ctl, .keys, .intake, .pic, .snd, .meter, .subs, .cue, .acct, .caps, .notice, .pwr, .link, .ports] ⊆ cs) : s.changesOnly (s₁.restartPart w) cs := h.trans (.mono (State.restartPart_frame _ _) hb)

theorem State.powerOn_frame (s : State) :
    s.changesOnly (s.powerOn) [.tl, .ctl, .keys, .intake, .pic, .snd, .meter, .subs, .cue, .acct, .caps, .notice, .pwr, .link, .ports] := by
  intro b hb; cases b <;> first | rfl | simp at hb

theorem State.powerOn_within {s : State} {cs : List Block} (s₁ : State) (h : s.changesOnly s₁ cs)
    (hb : [.tl, .ctl, .keys, .intake, .pic, .snd, .meter, .subs, .cue, .acct, .caps, .notice, .pwr, .link, .ports] ⊆ cs) : s.changesOnly (s₁.powerOn) cs := h.trans (.mono (State.powerOn_frame _) hb)

theorem State.enterNight_frame (s : State) :
    s.changesOnly (s.enterNight) [.cue, .notice, .meter, .snd, .link, .pwr] := by
  unfold State.enterNight
  try dsimp only
  all_goals repeat' with_reducible first
    | exact State.changesOnly.refl _ _
    | decide
    | refine State.modifyPwr_within _ _ ?_ ?_
    | refine State.modifyLink_within _ _ ?_ ?_
    | refine State.modifySnd_within _ _ ?_ ?_
    | refine State.modifyMeter_within _ _ ?_ ?_
    | refine State.setNotice_within _ _ ?_ ?_
    | refine State.modifyCue_within _ _ ?_ ?_

theorem State.enterNight_within {s : State} {cs : List Block} (s₁ : State) (h : s.changesOnly s₁ cs)
    (hb : [.cue, .notice, .meter, .snd, .link, .pwr] ⊆ cs) : s.changesOnly (s₁.enterNight) cs := h.trans (.mono (State.enterNight_frame _) hb)

theorem State.wakeTest_frame (s : State) :
    s.changesOnly (s.wakeTest) [.tl, .ctl, .keys, .intake, .pic, .snd, .meter, .subs, .cue, .acct, .caps, .notice, .pwr, .link, .ports] := by
  unfold State.wakeTest
  try dsimp only
  repeat' split
  all_goals repeat' with_reducible first
    | exact State.changesOnly.refl _ _
    | decide
    | refine State.restartPart_within _ _ ?_ ?_
    | refine State.modifyPwr_within _ _ ?_ ?_

theorem State.wakeTest_within {s : State} {cs : List Block} (s₁ : State) (h : s.changesOnly s₁ cs)
    (hb : [.tl, .ctl, .keys, .intake, .pic, .snd, .meter, .subs, .cue, .acct, .caps, .notice, .pwr, .link, .ports] ⊆ cs) : s.changesOnly (s₁.wakeTest) cs := h.trans (.mono (State.wakeTest_frame _) hb)

theorem State.clockEvent_frame (s : State) :
    s.changesOnly (s.clockEvent) [.tl, .ctl, .keys, .intake, .pic, .snd, .meter, .subs, .cue, .acct, .caps, .notice, .pwr, .link, .ports, .freeCount] := by
  unfold State.clockEvent
  try dsimp only
  repeat' split
  all_goals repeat' with_reducible first
    | exact State.changesOnly.refl _ _
    | decide
    | refine State.wakeTest_within _ ?_ ?_
    | refine State.scheduledStart_within _ ?_ ?_
    | refine State.evaluateKeys_within _ ?_ ?_
    | refine State.chose_within _ ?_ ?_

theorem State.clockEvent_within {s : State} {cs : List Block} (s₁ : State) (h : s.changesOnly s₁ cs)
    (hb : [.tl, .ctl, .keys, .intake, .pic, .snd, .meter, .subs, .cue, .acct, .caps, .notice, .pwr, .link, .ports, .freeCount] ⊆ cs) : s.changesOnly (s₁.clockEvent) cs := h.trans (.mono (State.clockEvent_frame _) hb)

theorem State.boothSecond_frame (s : State) :
    s.changesOnly (s.boothSecond) [.tl, .ctl, .keys, .intake, .pic, .snd, .meter, .subs, .cue, .acct, .caps, .notice, .pwr, .link, .ports, .freeCount] := by
  unfold State.boothSecond
  try dsimp only
  all_goals repeat' with_reducible first
    | exact State.changesOnly.refl _ _
    | decide
    | refine State.clockEvent_within _ ?_ ?_
    | refine State.modifyPwr_within _ _ ?_ ?_

theorem State.boothSecond_within {s : State} {cs : List Block} (s₁ : State) (h : s.changesOnly s₁ cs)
    (hb : [.tl, .ctl, .keys, .intake, .pic, .snd, .meter, .subs, .cue, .acct, .caps, .notice, .pwr, .link, .ports, .freeCount] ⊆ cs) : s.changesOnly (s₁.boothSecond) cs := h.trans (.mono (State.boothSecond_frame _) hb)

theorem State.enterReady_frame (s : State) :
    s.changesOnly (s.enterReady) [.snd, .meter, .pwr] := by
  unfold State.enterReady
  try dsimp only
  all_goals repeat' with_reducible first
    | exact State.changesOnly.refl _ _
    | decide
    | refine State.modifyPwr_within _ _ ?_ ?_
    | refine State.modifyMeter_within _ _ ?_ ?_
    | refine State.modifySnd_within _ _ ?_ ?_

theorem State.enterReady_within {s : State} {cs : List Block} (s₁ : State) (h : s.changesOnly s₁ cs)
    (hb : [.snd, .meter, .pwr] ⊆ cs) : s.changesOnly (s₁.enterReady) cs := h.trans (.mono (State.enterReady_frame _) hb)

theorem State.enterActive_frame (s : State) :
    s.changesOnly (s.enterActive) [.snd, .meter, .cue, .pwr] := by
  unfold State.enterActive
  try dsimp only
  all_goals repeat' with_reducible first
    | exact State.changesOnly.refl _ _
    | decide
    | refine State.modifyPwr_within _ _ ?_ ?_
    | refine State.modifyMeter_within _ _ ?_ ?_
    | refine State.modifySnd_within _ _ ?_ ?_
    | refine State.modifyCue_within _ _ ?_ ?_

theorem State.enterActive_within {s : State} {cs : List Block} (s₁ : State) (h : s.changesOnly s₁ cs)
    (hb : [.snd, .meter, .cue, .pwr] ⊆ cs) : s.changesOnly (s₁.enterActive) cs := h.trans (.mono (State.enterActive_frame _) hb)

theorem State.setEnables_frame (s : State) (b : BitVec 13) :
    s.changesOnly (s.setEnables b) [.notice, .link] := by
  unfold State.setEnables
  try dsimp only
  all_goals repeat' with_reducible first
    | exact State.changesOnly.refl _ _
    | decide
    | refine State.foldl_within (fun _ _ => State.withdraw_frame _ _) _ ?_ ?_
    | refine State.setNotice_within _ _ ?_ ?_

theorem State.setEnables_within {s : State} {cs : List Block} (s₁ : State) (b : BitVec 13) (h : s.changesOnly s₁ cs)
    (hb : [.notice, .link] ⊆ cs) : s.changesOnly (s₁.setEnables b) cs := h.trans (.mono (State.setEnables_frame _ _) hb)

theorem State.setReceiver_frame (s : State) (r : Receiver) :
    s.changesOnly (s.setReceiver r) [.link] := by
  unfold State.setReceiver
  try dsimp only
  all_goals repeat' with_reducible first
    | exact State.changesOnly.refl _ _
    | decide
    | refine State.modifyLink_within _ _ ?_ ?_

theorem State.setReceiver_within {s : State} {cs : List Block} (s₁ : State) (r : Receiver) (h : s.changesOnly s₁ cs)
    (hb : [.link] ⊆ cs) : s.changesOnly (s₁.setReceiver r) cs := h.trans (.mono (State.setReceiver_frame _ _) hb)

theorem State.linkFault_frame (s : State) (c : FaultCause) (b : List Byte) (r : Receiver) :
    s.changesOnly (s.linkFault c b r) [.link, .caps, .notice] := by
  unfold State.linkFault
  try dsimp only
  all_goals repeat' with_reducible first
    | exact State.changesOnly.refl _ _
    | decide
    | refine State.endEvent_within _ _ ?_ ?_
    | refine State.offer_within _ _ _ _ _ ?_ ?_
    | refine State.setReceiver_within _ _ ?_ ?_

theorem State.linkFault_within {s : State} {cs : List Block} (s₁ : State) (c : FaultCause) (b : List Byte) (r : Receiver) (h : s.changesOnly s₁ cs)
    (hb : [.link, .caps, .notice] ⊆ cs) : s.changesOnly (s₁.linkFault c b r) cs := h.trans (.mono (State.linkFault_frame _ _ _ _) hb)

theorem State.completeFrame_frame (s : State) (f : Frame) :
    s.changesOnly (s.completeFrame f) [.link, .notice] := by
  unfold State.completeFrame
  try dsimp only
  repeat' split
  all_goals repeat' with_reducible first
    | exact State.changesOnly.refl _ _
    | decide
    | refine State.endEvent_within _ _ ?_ ?_
    | refine State.modifyLink_within _ _ ?_ ?_

theorem State.completeFrame_within {s : State} {cs : List Block} (s₁ : State) (f : Frame) (h : s.changesOnly s₁ cs)
    (hb : [.link, .notice] ⊆ cs) : s.changesOnly (s₁.completeFrame f) cs := h.trans (.mono (State.completeFrame_frame _ _) hb)

theorem State.receiveByte_frame (s : State) (b : Byte) :
    s.changesOnly (s.receiveByte b) [.link, .caps, .notice] := by
  unfold State.receiveByte
  try dsimp only
  repeat' split
  all_goals repeat' with_reducible first
    | exact State.changesOnly.refl _ _
    | decide
    | refine State.linkFault_within _ _ _ _ ?_ ?_
    | refine State.completeFrame_within _ _ ?_ ?_
    | refine State.setReceiver_within _ _ ?_ ?_

theorem State.receiveByte_within {s : State} {cs : List Block} (s₁ : State) (b : Byte) (h : s.changesOnly s₁ cs)
    (hb : [.link, .caps, .notice] ⊆ cs) : s.changesOnly (s₁.receiveByte b) cs := h.trans (.mono (State.receiveByte_frame _ _) hb)

theorem State.receive_frame (s : State) (b : List Byte) :
    s.changesOnly (s.receive b) [.link, .caps, .notice] := by
  unfold State.receive
  try dsimp only
  repeat' split
  all_goals repeat' with_reducible first
    | exact State.changesOnly.refl _ _
    | decide
    | refine State.foldl_within (fun _ _ => State.receiveByte_frame _ _) _ ?_ ?_

theorem State.receive_within {s : State} {cs : List Block} (s₁ : State) (b : List Byte) (h : s.changesOnly s₁ cs)
    (hb : [.link, .caps, .notice] ⊆ cs) : s.changesOnly (s₁.receive b) cs := h.trans (.mono (State.receive_frame _ _) hb)

theorem State.receiveGap_frame (s : State) :
    s.changesOnly (s.receiveGap) [.link, .caps, .notice] := by
  unfold State.receiveGap
  try dsimp only
  repeat' split
  all_goals repeat' with_reducible first
    | exact State.changesOnly.refl _ _
    | decide
    | refine State.linkFault_within _ _ _ _ ?_ ?_
    | refine State.setReceiver_within _ _ ?_ ?_

theorem State.receiveGap_within {s : State} {cs : List Block} (s₁ : State) (h : s.changesOnly s₁ cs)
    (hb : [.link, .caps, .notice] ⊆ cs) : s.changesOnly (s₁.receiveGap) cs := h.trans (.mono (State.receiveGap_frame _) hb)

theorem State.replySent_frame (s : State) :
    s.changesOnly (s.replySent) [.tl, .ctl, .keys, .intake, .pic, .snd, .meter, .subs, .cue, .acct, .caps, .notice, .pwr, .link, .ports] := by
  unfold State.replySent
  try dsimp only
  repeat' split
  all_goals repeat' with_reducible first
    | exact State.changesOnly.refl _ _
    | decide
    | refine State.endEvent_within _ _ ?_ ?_
    | refine State.enterNight_within _ ?_ ?_
    | refine State.restartPart_within _ _ ?_ ?_
    | refine State.modifyLink_within _ _ ?_ ?_

theorem State.replySent_within {s : State} {cs : List Block} (s₁ : State) (h : s.changesOnly s₁ cs)
    (hb : [.tl, .ctl, .keys, .intake, .pic, .snd, .meter, .subs, .cue, .acct, .caps, .notice, .pwr, .link, .ports] ⊆ cs) : s.changesOnly (s₁.replySent) cs := h.trans (.mono (State.replySent_frame _) hb)

theorem State.transmitComplete_frame (s : State) :
    s.changesOnly (s.transmitComplete) [.tl, .ctl, .keys, .intake, .pic, .snd, .meter, .subs, .cue, .acct, .caps, .notice, .pwr, .link, .ports] := by
  unfold State.transmitComplete
  try dsimp only
  repeat' split
  all_goals repeat' with_reducible first
    | exact State.changesOnly.refl _ _
    | decide
    | refine State.endEvent_within _ _ ?_ ?_
    | refine State.replySent_within _ ?_ ?_
    | refine State.modifyLink_within _ _ ?_ ?_
    | refine State.setPorts_within _ _ ?_ ?_
    | refine State.setNotice_within _ _ ?_ ?_

theorem State.transmitComplete_within {s : State} {cs : List Block} (s₁ : State) (h : s.changesOnly s₁ cs)
    (hb : [.tl, .ctl, .keys, .intake, .pic, .snd, .meter, .subs, .cue, .acct, .caps, .notice, .pwr, .link, .ports] ⊆ cs) : s.changesOnly (s₁.transmitComplete) cs := h.trans (.mono (State.transmitComplete_frame _) hb)

end Sys2Proof.Machine
end

