-- ==== Sys2Proof/Laws/Lists.lean ====
section
/-!
SUPPORT. What the byte fields and the list operations of Ops can do: fields read back what was laid out, an update reaches one element,
a search finds the first.
-/
namespace Sys2Proof.Machine

/-! ### Fields (section 12.5) -/

@[simp] theorem length_beBytes : ∀ k n, (beBytes k n).length = k
  | 0, _ => rfl
  | k + 1, n => by simp [beBytes, length_beBytes k n]

/-- A field goes on from the bytes before it. -/
theorem beNat_append (a b : List Byte) : beNat (a ++ b) = beNat a * 256 ^ b.length + beNat b := by
  have go : ∀ (b : List Byte) (n : Nat),
      b.foldl (fun n x => n * 256 + x.toNat) n = n * 256 ^ b.length + b.foldl (fun n x => n * 256 + x.toNat) 0 := by
    intro b
    induction b with
    | nil => intro n; simp
    | cons x b ih =>
      intro n
      simp only [List.foldl_cons, List.length_cons]
      rw [ih (n * 256 + x.toNat), ih (0 * 256 + x.toNat), pow_succ]
      ring
  simp only [beNat, List.foldl_append]
  exact go b _

/-- A value laid out in `k` bytes reads back as itself when it fits them. -/
theorem beNat_beBytes : ∀ k n, n < 256 ^ k → beNat (beBytes k n) = n
  | 0, n, h => by simp at h; simp [beBytes, beNat, h]
  | k + 1, n, h => by
    have hq : n / 256 ^ k < 256 := by
      apply Nat.div_lt_of_lt_mul
      rw [pow_succ] at h
      exact h
    have : beBytes (k + 1) n = [BitVec.ofNat 8 (n / 256 ^ k)] ++ beBytes k n := rfl
    rw [this, beNat_append, length_beBytes]
    have hlow : beNat (beBytes k n) = n % 256 ^ k := by
      have : beBytes k n = beBytes k (n % 256 ^ k) := by
        clear hq h this
        have go : ∀ j, j ≤ k → beBytes j n = beBytes j (n % 256 ^ k) := by
          intro j
          induction j with
          | zero => intro _; rfl
          | succ j ih =>
            intro hj
            simp only [beBytes]
            rw [ih (by omega)]
            congr 1
            apply BitVec.eq_of_toNat_eq
            simp only [BitVec.toNat_ofNat]
            have hd : (256 : Nat) ^ (j + 1) ∣ 256 ^ k := pow_dvd_pow 256 hj
            rw [show (2 : Nat) ^ 8 = 256 from rfl, ← Nat.mod_mul_right_div_self, ← Nat.mod_mul_right_div_self,
              show (256 : Nat) ^ j * 256 = 256 ^ (j + 1) from (pow_succ 256 j).symm, Nat.mod_mod_of_dvd n hd]
        exact go k (le_refl k)
      rw [this]
      exact beNat_beBytes k _ (Nat.mod_lt _ (by positivity))
    rw [hlow]
    simp only [beNat, List.foldl_cons, List.foldl_nil, BitVec.toNat_ofNat]
    rw [Nat.mod_eq_of_lt (by omega)]
    simp only [Nat.zero_mul, Nat.zero_add]
    exact Nat.div_add_mod' n (256 ^ k)

/-- The field that stands after `a`. -/
theorem field_append (a b c : List Byte) : field (a ++ b ++ c) a.length b.length = beNat b := by simp [field]

/-- The 16 bytes of an id read back as the id. -/
theorem idField_idBytes (a b : List Byte) (i : Id) : idField (a ++ idBytes i ++ b) a.length = i := by
  have h : field (a ++ idBytes i ++ b) a.length 16 = beNat (idBytes i) := by
    have := field_append a (idBytes i) b
    rwa [show (idBytes i).length = 16 from length_beBytes 16 _] at this
  rw [idField, h, idBytes, beNat_beBytes 16 i.toNat (by have := i.isLt; omega)]
  simp

/-! ### Updates and searches -/

/-- An update at an index is a set of the changed element. -/
theorem updateAt_eq_modify {α : Type} (f : α → α) : ∀ (i : Nat) (l : List α), updateAt f i l = l.modify i f
  | _, [] => by simp [updateAt]
  | 0, a :: l => by simp [updateAt]
  | i + 1, a :: l => by simp [updateAt, updateAt_eq_modify f i l]

@[simp] theorem length_updateAt {α : Type} (f : α → α) (i : Nat) (l : List α) : (updateAt f i l).length = l.length := by
  rw [updateAt_eq_modify]; simp

/-- An update changes the element at its index and no other. -/
theorem getElem?_updateAt {α : Type} (f : α → α) (i j : Nat) (l : List α) :
    (updateAt f i l)[j]? = if i = j then l[j]?.map f else l[j]? := by
  rw [updateAt_eq_modify, List.getElem?_modify]
  by_cases h : i = j
  · simp [h]
  · simp [h]

/-- A search answers the index of the first element it looks for. -/
theorem indexWhere_eq_some {α : Type} (p : α → Bool) :
    ∀ (l : List α) (i : Nat) (a : α), firstAt l (fun x => p x = true) i a → indexWhere p l = some i
  | [], i, a, h => by simp [firstAt] at h
  | b :: l, 0, a, h => by
    obtain ⟨h1, h2, -⟩ := h
    obtain rfl : b = a := by simpa using h1
    simp [indexWhere, h2]
  | b :: l, i + 1, a, h => by
    obtain ⟨h1, h2, h3⟩ := h
    have hb : ¬p b = true := h3 0 (by omega) b (by simp)
    have ih := indexWhere_eq_some p l i a
      ⟨by simpa using h1, h2, fun j hj x hx => h3 (j + 1) (by omega) x (by simpa using hx)⟩
    simp [indexWhere, hb, ih]

/-- A search answers nothing when no element is one it looks for. -/
theorem indexWhere_eq_none {α : Type} (p : α → Bool) : ∀ l : List α, (∀ a ∈ l, p a = false) → indexWhere p l = none
  | [], _ => rfl
  | b :: l, h => by
    have hb : p b = false := h b (by simp)
    simp [indexWhere, hb, indexWhere_eq_none p l fun a ha => h a (by simp [ha])]

end Sys2Proof.Machine
end

