-- ==== Sys2Proof/Laws/Requests.lean ====
section
/-!
SUPPORT. What a request does, said once: a take, its owner's answer, the reply and the end of the event. A proof about a request shows
what its owner answers and cites `answers_of_owner`.
-/
namespace Sys2Proof.Machine

/-- In a state whose summaries are composed there is nothing to compose. -/
theorem State.compose_of_composed {s : State} (h : s.composed = true) : s.compose = s := by
  unfold State.compose
  have h' : ∀ e ∈ s.notice.order, ¬e.summary.isNone = true := by
    intro e he
    have := (List.all_eq_true.mp h) e he
    cases hs : e.summary <;> simp_all
  have : (s.notice.order.map fun e => if e.summary.isNone then { e with summary := some (s.summaryOf e.source) } else e) =
      s.notice.order := by
    conv => rhs; rw [← List.map_id s.notice.order]
    exact List.map_congr_left fun e he => by simp [h' e he]
  rw [this]
  rfl

/-- The end of an event of a composed state hands a free transmitter its next frame and changes nothing else. -/
theorem State.endEvent_frame_of_composed {s : State} (h : s.composed = true) (a : Bool) : s.changesOnly (s.endEvent a) [.link] := by
  unfold State.endEvent
  rw [State.compose_of_composed h]
  exact State.transmit_frame s a

/-- A transmitter that takes its next frame leaves the rest of the link as it is. -/
theorem State.transmit_link (s : State) (a : Bool) :
    (s.transmit a).link = { s.link with transmitter := (s.transmit a).link.transmitter } := by
  unfold State.transmit
  split <;> rfl

/-- The end of an event leaves the link as it is, its transmitter apart. -/
theorem State.endEvent_link (s : State) (a : Bool) :
    (s.endEvent a).link = { s.link with transmitter := (s.endEvent a).link.transmitter } := by
  unfold State.endEvent
  rw [State.transmit_link]
  rfl

/-- The notices after the end of an event: the order with its missing summaries composed. -/
theorem State.endEvent_notice (s : State) (a : Bool) : (s.endEvent a).notice = s.compose.notice := by
  have h := State.transmit_frame s.compose a .notice (by simp)
  exact h

/-- The sources in the pending order are those before the end of the event. -/
theorem State.endEvent_sources (s : State) (a : Bool) :
    (s.endEvent a).notice.order.map PendingSource.source = s.notice.order.map PendingSource.source := by
  rw [State.endEvent_notice]
  unfold State.compose
  simp only [State.setNotice_notice, List.map_map]
  apply List.map_congr_left
  intro e _
  by_cases h : e.summary.isNone <;> simp [Function.comp, h]

/-- The enables stand at the end of an event. -/
theorem State.endEvent_enables (s : State) (a : Bool) : (s.endEvent a).notice.enables = s.notice.enables := by
  rw [State.endEvent_notice]
  rfl

/-- A request whose frame does not stand to be taken leaves the part as it is. -/
theorem request_left {kind tag : Byte} {owner : List Byte → State → Answer} {p : List Byte} {s : State}
    (h : s.takes (requestFrame kind tag p) = false) : request kind owner tag p s = .next s := by
  have h' : s.takes { kind := kind, tag := tag, payload := p } = false := h
  simp [request, h']

/-- A request whose frame stands to be taken: the next state is its owner's, with the reply placed, at the end of the event. -/
theorem request_taken {kind tag : Byte} {owner : List Byte → State → Answer} {p : List Byte} {s : State}
    (h : s.takes (requestFrame kind tag p) = true) :
    request kind owner tag p s =
      .next (((owner p s.dequeue).state.reply (requestFrame kind tag p) (owner p s.dequeue).status (owner p s.dequeue).data).endEvent) := by
  have h' : s.takes { kind := kind, tag := tag, payload := p } = true := h
  simp [request, h', requestFrame]

/-- A reply in the buffer does not change what is composed. -/
theorem State.compose_reply (s : State) (f : Frame) (st : Status) (data : List Byte) :
    (s.reply f st data).compose.notice = s.compose.notice := by
  have h (src : Source) : (s.reply f st data).summaryOf src = s.summaryOf src := by cases src <;> rfl
  unfold State.compose
  simp only [State.setNotice, h]
  rfl

/-- What a request answers, from what its owner does: the owner leaves the link alone, changes only `bs`, and `post` holds of every state
that differs from the owner's only in the transmitter, the reply and composed summaries. -/
theorem answers_of_owner {c : Instr} {kind tag : Byte} {owner : List Byte → State → Answer} {p : List Byte} {s t : State}
    {st : Status} {data : List Byte} {bs : List Block} {post : State → Prop}
    (hc : exec c s = request kind owner tag p s) (h : s.asks (requestFrame kind tag p))
    (ho : owner p s.dequeue = { state := t, status := st, data := data })
    (hl : t.link = s.dequeue.link) (hb : s.dequeue.changesOnly t (.link :: bs)) (hn : t.composed = true ∨ .notice ∈ bs)
    (hp : ∀ u : State, (t.reply (requestFrame kind tag p) st data).changesOnly u [.notice, .link] →
      (t.composed = true → u.notice = t.notice) → u.notice = t.compose.notice → post u) :
    replies c s (requestFrame kind tag p) st data bs post := by
  refine ⟨((t.reply (requestFrame kind tag p) st data).endEvent), ?_, ?_, ?_, ?_⟩
  · rw [hc, request_taken h.1, ho]
  · have hk := State.endEvent_link (t.reply (requestFrame kind tag p) st data) false
    refine ⟨?_, ?_, ?_, ?_, ?_, ?_⟩ <;> rw [hk] <;> simp [State.reply, State.dequeue, hl, replyKind, requestFrame]
  · have h1 : s.changesOnly s.dequeue (.link :: bs) := (State.dequeue_frame s).mono (by simp)
    have h2 : t.changesOnly (t.reply (requestFrame kind tag p) st data) (.link :: bs) := (State.reply_frame t _ _ _).mono (by simp)
    have h3 : (t.reply (requestFrame kind tag p) st data).changesOnly
        ((t.reply (requestFrame kind tag p) st data).endEvent) (.link :: bs) := by
      rcases hn with hn | hn
      · exact (State.endEvent_frame_of_composed (by simpa [State.composed, State.reply] using hn) false).mono (by simp)
      · exact (State.endEvent_frame _ false).mono (by
          intro b hb'; rcases List.mem_cons.mp hb' with rfl | hb'
          · exact List.mem_cons_of_mem _ hn
          · simp_all)
    exact ((h1.trans hb).trans h2).trans h3
  · refine hp _ (State.endEvent_frame _ false) ?_ ?_
    · intro ht
      rw [State.endEvent_notice, State.compose_of_composed (by simpa [State.composed, State.reply] using ht)]
      rfl
    · rw [State.endEvent_notice, State.compose_reply]

/-- A refused request changes nothing but the link. -/
theorem refuses_of_owner {c : Instr} {kind tag : Byte} {owner : List Byte → State → Answer} {p : List Byte} {s : State}
    {st : Status} {data : List Byte} (hc : exec c s = request kind owner tag p s) (h : s.asks (requestFrame kind tag p))
    (ho : owner p s.dequeue = s.dequeue.refuse st data) : refuses c s (requestFrame kind tag p) st data :=
  answers_of_owner hc h ho rfl (.refl _ _) (.inl (by simpa [State.composed, State.dequeue] using h.2)) fun _ _ _ _ => trivial

end Sys2Proof.Machine
end

