-- ==== Sys2Proof/Laws/Notices.lean ====
section
/-!
SUPPORT. What a raising and an offer do to the pending order, said once: a proof that an event signals a source shows which state was
raised and cites `signals_of_raise`.
-/
namespace Sys2Proof.Machine

/-- The table of R169 as the statements spell it is the one the model composes from. -/
theorem State.told_eq_summaryOf (s : State) (src : Source) : s.told src = s.summaryOf src := by
  have fault (r : Option FaultRecord) : faultTold r = (r.map FaultRecord.summary).getD noSummary := by
    cases r with
    | none => rfl
    | some r => rcases r with ⟨_, _, _ | _, _, _, _⟩ <;> simp [faultTold, FaultRecord.summary]
  cases src <;> simp only [State.told, State.summaryOf, fault]
  case keys => rcases s.keys.details with ⟨_, _, _ | _⟩ <;> rfl
  case silence => rcases s.meter.silence with ⟨_, _ | _, _⟩ <;> rfl
  all_goals split <;> simp [*, noSummary, ShowEvent.summary, CountDetails.summary, LogDetails.summary, MeterDetails.summary, meterByte,
    InputDetails.summary, CueDetails.summary, wakeSummary]

/-- The pending order after a raising: an enabled source that is not pending joins the tail, outside NIGHT (R168, R169). -/
theorem State.raise_order (s : State) (src : Source) :
    (s.raise src).notice = { s.notice with
      order := s.notice.order ++
        if s.notice.isEnabled src && !s.notice.isPending src && s.pwr.state ≠ .night then
          [{ source := src, mark := .awaiting, summary := none }] else [] } := by
  unfold State.raise
  split <;> simp [State.setNotice, *]

/-- What is composed is what the pending order held, and the summaries of what this event raised. -/
theorem State.compose_entriesOf (s : State) (src : Source) :
    s.compose.entriesOf src = (s.entriesOf src).map fun e =>
      if e.summary.isNone then { e with summary := some (s.told src) } else e := by
  unfold State.compose State.entriesOf
  simp only [State.setNotice, List.filter_map]
  have hf : ((fun e : PendingSource => decide (e.source = src)) ∘
      fun e : PendingSource => if e.summary.isNone then { e with summary := some (s.summaryOf e.source) } else e) =
      fun e => decide (e.source = src) := by
    funext e
    simp only [Function.comp]
    split <;> rfl
  rw [hf]
  apply List.map_congr_left
  intro e he
  have : e.source = src := by simpa using (List.mem_filter.mp he).2
  subst this
  rw [State.told_eq_summaryOf]

/-- In a composed state the entries of a source are composed. -/
theorem State.map_of_composed {s : State} (h : s.composed = true) (src : Source) (f : PendingSource → PendingSource) :
    ((s.entriesOf src).map fun e => if e.summary.isNone then f e else e) = s.entriesOf src := by
  conv => rhs; rw [← List.map_id (s.entriesOf src)]
  apply List.map_congr_left
  intro e he
  have := (List.all_eq_true.mp h) e (List.mem_filter.mp he).1
  cases hs : e.summary <;> simp_all

/-- An event raised a source in a state `r` with the notices of `s`; `v` is the state at its end, before the summaries are composed, and
`u` a state with the notices composed and the same details. -/
theorem State.signals_of_raise {s r v u : State} {src : Source} (hc : s.composed = true) (hn : r.notice = s.notice)
    (hp : r.pwr.state = s.pwr.state) (hv : v.notice = (r.raise src).notice) (hu : u.notice = v.compose.notice)
    (ht : u.told src = v.told src) : s.signals u src := by
  have he : v.entriesOf src = s.entriesOf src ++ if s.notice.isEnabled src && !s.notice.isPending src && s.pwr.state ≠ .night then
      [{ source := src, mark := .awaiting, summary := none }] else [] := by
    unfold State.entriesOf
    rw [hv, State.raise_order, hn, hp]
    simp only [List.filter_append]
    split <;> simp
  have hue : u.entriesOf src = v.compose.entriesOf src := by unfold State.entriesOf; rw [hu]
  have hpend : s.notice.isPending src = true ↔ src ∈ s.notice.order.map PendingSource.source := by
    simp [Notices.isPending, List.mem_map]
  refine ⟨?_, fun hd => ?_, fun hd => ?_⟩
  · rw [hu]
    show v.notice.enables = _
    rw [hv, State.raise_order, hn]
  · have hnone : s.entriesOf src = [] := by
      apply List.filter_eq_nil_iff.mpr
      intro e hm h
      exact hd (.inr (.inr (List.mem_map.mpr ⟨e, hm, by simpa using h⟩)))
    have hcond : (s.notice.isEnabled src && !s.notice.isPending src && decide (s.pwr.state ≠ .night)) = true := by
      unfold State.deaf at hd
      simp only [not_or, Bool.not_eq_false] at hd
      simp [hd.1, hd.2.1, Bool.eq_false_iff.mpr fun h => hd.2.2 (hpend.mp h)]
    rw [hue, State.compose_entriesOf, he, hnone, if_pos hcond, ht]
    rfl
  · have hcond : ¬(s.notice.isEnabled src && !s.notice.isPending src && decide (s.pwr.state ≠ .night)) = true := by
      intro h
      simp only [Bool.and_eq_true, Bool.not_eq_true', decide_eq_true_eq] at h
      rcases hd with hd | hd | hd
      · simp [hd] at h
      · exact h.2 hd
      · rw [hpend.mpr hd] at h; simp at h
    rw [hue, State.compose_entriesOf, he, if_neg hcond, List.append_nil, State.map_of_composed hc]

end Sys2Proof.Machine
end

