-- ==== Sys2Proof/Laws/PerInstr.lean ====
section
/-!
SUPPORT. The family of statements that holds of every command: the frame a well-formed request takes fits the control link.
-/
namespace Sys2Proof.Laws.FrameFits

open Sys2Proof Sys2Proof.Machine

/-- The frame that a well-formed command takes has a payload of at most 1,024 bytes and a length field in the range of R183, and its
bytes on the line are its payload and the six others (section 12.1, R182, R183). -/
def Statement (i : Instr) : Prop :=
  i.wellFormed = true → ∀ f, i.frame = some f →
    f.payload.length ≤ 1024 ∧ badLengthField (2 + f.payload.length) = false ∧ f.bytes.length = f.payload.length + 6

/-- `k` bytes are `k` long. -/
theorem beBytes_length : ∀ k n, (beBytes k n).length = k
  | 0, _ => rfl
  | k + 1, n => by simp [beBytes, beBytes_length k n]

/-- The bytes of a frame whose payload fits. -/
theorem of_payload {f : Frame} (h : payloadFits f.payload = true) :
    f.payload.length ≤ 1024 ∧ badLengthField (2 + f.payload.length) = false ∧ f.bytes.length = f.payload.length + 6 := by
  have h' : f.payload.length ≤ 1024 := by simpa [payloadFits] using h
  refine ⟨h', ?_, ?_⟩
  · simp [badLengthField]; omega
  · simp [Frame.bytes, withCrc, beBytes_length]; omega

/-- A command that takes this frame, when the frame's payload fits. -/
theorem of_frame {i : Instr} {f : Frame} (hf : i.frame = some f) (hw : i.wellFormed = true → payloadFits f.payload = true) :
    Statement i := by
  intro h g hg
  obtain rfl : f = g := by simpa [hf] using hg
  exact of_payload (hw h)

/-- A command that takes no frame. -/
theorem of_none {i : Instr} (hf : i.frame = none) : Statement i := by
  intro _ g hg
  simp [hf] at hg

theorem status (tag : Byte) (payload : List Byte) : Statement (.status tag payload) := of_frame rfl id
theorem noticeEnable (tag : Byte) (payload : List Byte) : Statement (.noticeEnable tag payload) := of_frame rfl id
theorem noticeClear (tag : Byte) (payload : List Byte) : Statement (.noticeClear tag payload) := of_frame rfl id
theorem faultRead (tag : Byte) (payload : List Byte) : Statement (.faultRead tag payload) := of_frame rfl id
theorem faultClear (tag : Byte) (payload : List Byte) : Statement (.faultClear tag payload) := of_frame rfl id
theorem clockSet (tag : Byte) (payload : List Byte) : Statement (.clockSet tag payload) := of_frame rfl id
theorem wakeAt (tag : Byte) (payload : List Byte) : Statement (.wakeAt tag payload) := of_frame rfl id
theorem ready (tag : Byte) (payload : List Byte) : Statement (.ready tag payload) := of_frame rfl id
theorem active (tag : Byte) (payload : List Byte) : Statement (.active tag payload) := of_frame rfl id
theorem night (tag : Byte) (payload : List Byte) : Statement (.night tag payload) := of_frame rfl id
theorem restart (tag : Byte) (payload : List Byte) : Statement (.restart tag payload) := of_frame rfl id
theorem showLoad (tag : Byte) (payload : List Byte) : Statement (.showLoad tag payload) := of_frame rfl id
theorem showUnload (tag : Byte) (payload : List Byte) : Statement (.showUnload tag payload) := of_frame rfl id
theorem showArm (tag : Byte) (payload : List Byte) : Statement (.showArm tag payload) := of_frame rfl id
theorem showStart (tag : Byte) (payload : List Byte) : Statement (.showStart tag payload) := of_frame rfl id
theorem showStartAt (tag : Byte) (payload : List Byte) : Statement (.showStartAt tag payload) := of_frame rfl id
theorem pause (tag : Byte) (payload : List Byte) : Statement (.pause tag payload) := of_frame rfl id
theorem resume (tag : Byte) (payload : List Byte) : Statement (.resume tag payload) := of_frame rfl id
theorem stop (tag : Byte) (payload : List Byte) : Statement (.stop tag payload) := of_frame rfl id
theorem halt (tag : Byte) (payload : List Byte) : Statement (.halt tag payload) := of_frame rfl id
theorem showQuery (tag : Byte) (payload : List Byte) : Statement (.showQuery tag payload) := of_frame rfl id
theorem cueEditWrite (tag : Byte) (payload : List Byte) : Statement (.cueEditWrite tag payload) := of_frame rfl id
theorem cueEditDelete (tag : Byte) (payload : List Byte) : Statement (.cueEditDelete tag payload) := of_frame rfl id
theorem cueList (tag : Byte) (payload : List Byte) : Statement (.cueList tag payload) := of_frame rfl id
theorem keyPut (tag : Byte) (payload : List Byte) : Statement (.keyPut tag payload) := of_frame rfl id
theorem keyRemove (tag : Byte) (payload : List Byte) : Statement (.keyRemove tag payload) := of_frame rfl id
theorem keyRevoke (tag : Byte) (payload : List Byte) : Statement (.keyRevoke tag payload) := of_frame rfl id
theorem keyGet (tag : Byte) (payload : List Byte) : Statement (.keyGet tag payload) := of_frame rfl id
theorem keyList (tag : Byte) (payload : List Byte) : Statement (.keyList tag payload) := of_frame rfl id
theorem mapSet (tag : Byte) (payload : List Byte) : Statement (.mapSet tag payload) := of_frame rfl id
theorem fade (tag : Byte) (payload : List Byte) : Statement (.fade tag payload) := of_frame rfl id
theorem delaySet (tag : Byte) (payload : List Byte) : Statement (.delaySet tag payload) := of_frame rfl id
theorem soundQuery (tag : Byte) (payload : List Byte) : Statement (.soundQuery tag payload) := of_frame rfl id
theorem meterSet (tag : Byte) (payload : List Byte) : Statement (.meterSet tag payload) := of_frame rfl id
theorem meterStart (tag : Byte) (payload : List Byte) : Statement (.meterStart tag payload) := of_frame rfl id
theorem meterStop (tag : Byte) (payload : List Byte) : Statement (.meterStop tag payload) := of_frame rfl id
theorem meterRead (tag : Byte) (payload : List Byte) : Statement (.meterRead tag payload) := of_frame rfl id
theorem silenceSet (tag : Byte) (payload : List Byte) : Statement (.silenceSet tag payload) := of_frame rfl id
theorem subtitleSet (tag : Byte) (payload : List Byte) : Statement (.subtitleSet tag payload) := of_frame rfl id
theorem subtitleQuery (tag : Byte) (payload : List Byte) : Statement (.subtitleQuery tag payload) := of_frame rfl id
theorem lineConfig (tag : Byte) (payload : List Byte) : Statement (.lineConfig tag payload) := of_frame rfl id
theorem line (tag : Byte) (payload : List Byte) : Statement (.line tag payload) := of_frame rfl id
theorem linePulse (tag : Byte) (payload : List Byte) : Statement (.linePulse tag payload) := of_frame rfl id
theorem pairConfig (tag : Byte) (payload : List Byte) : Statement (.pairConfig tag payload) := of_frame rfl id
theorem pair (tag : Byte) (payload : List Byte) : Statement (.pair tag payload) := of_frame rfl id
theorem inputConfig (tag : Byte) (payload : List Byte) : Statement (.inputConfig tag payload) := of_frame rfl id
theorem captureRead (tag : Byte) (payload : List Byte) : Statement (.captureRead tag payload) := of_frame rfl id
theorem emergencyConfig (tag : Byte) (payload : List Byte) : Statement (.emergencyConfig tag payload) := of_frame rfl id
theorem holdRelease (tag : Byte) (payload : List Byte) : Statement (.holdRelease tag payload) := of_frame rfl id
theorem lineQuery (tag : Byte) (payload : List Byte) : Statement (.lineQuery tag payload) := of_frame rfl id
theorem logRead (tag : Byte) (payload : List Byte) : Statement (.logRead tag payload) := of_frame rfl id
theorem logCollect (tag : Byte) (payload : List Byte) : Statement (.logCollect tag payload) := of_frame rfl id
theorem logStatus (tag : Byte) (payload : List Byte) : Statement (.logStatus tag payload) := of_frame rfl id
theorem unknownKind (kind tag : Byte) (payload : List Byte) : Statement (.unknownKind kind tag payload) :=
  of_frame rfl fun h => (by simpa [Instr.wellFormed] using h : _ ∧ _).2
theorem replyKindFrameDiscard (kind tag : Byte) (payload : List Byte) : Statement (.replyKindFrameDiscard kind tag payload) :=
  of_frame rfl fun h => (by simpa [Instr.wellFormed] using h : _ ∧ _).2
theorem frameReceived (bytes : List Byte) : Statement (.frameReceived bytes) := of_none rfl
theorem lengthFault (bytes : List Byte) : Statement (.lengthFault bytes) := of_none rfl
theorem linkGapTimeout (bytes : List Byte) : Statement (.linkGapTimeout bytes) := of_none rfl
theorem transmitComplete : Statement (.transmitComplete) := of_none rfl
theorem storageData (seq : BitVec 16) (unit : List Byte) : Statement (.storageData seq unit) := of_none rfl
theorem storageError (seq : BitVec 16) (code : Byte) : Statement (.storageError seq code) := of_none rfl
theorem storageRecordDiscard (record : List Byte) : Statement (.storageRecordDiscard record) := of_none rfl
theorem storageLinkIdle : Statement (.storageLinkIdle) := of_none rfl
theorem storageTimeout (slot : Fin 4) : Statement (.storageTimeout slot) := of_none rfl
theorem sweepVisit : Statement (.sweepVisit) := of_none rfl
theorem samplePeriod : Statement (.samplePeriod) := of_none rfl
theorem stopFadeComplete : Statement (.stopFadeComplete) := of_none rfl
theorem gainFadeEnd (gain : GainId) : Statement (.gainFadeEnd gain) := of_none rfl
theorem switchDownComplete (output : Fin 18) : Statement (.switchDownComplete output) := of_none rfl
theorem switchUpComplete (output : Fin 18) : Statement (.switchUpComplete output) := of_none rfl
theorem meterWindowComplete : Statement (.meterWindowComplete) := of_none rfl
theorem armTimeout : Statement (.armTimeout) := of_none rfl
theorem pauseLimitExpiry : Statement (.pauseLimitExpiry) := of_none rfl
theorem boothClockSecond : Statement (.boothClockSecond) := of_none rfl
theorem millisecondBoundary (levels : BitVec 8) : Statement (.millisecondBoundary levels) := of_none rfl
theorem pulseExpiry (line : Fin 8) : Statement (.pulseExpiry line) := of_none rfl
theorem deadTimerExpiry (pair : Fin 4) : Statement (.deadTimerExpiry pair) := of_none rfl
theorem wakeLineFall : Statement (.wakeLineFall) := of_none rfl
theorem resetLineAssert : Statement (.resetLineAssert) := of_none rfl
theorem powerOn : Statement (.powerOn) := of_none rfl

end Sys2Proof.Laws.FrameFits
end

