-- ==== Sys2Proof/Tests/Slice0.lean ====
section
/-!
SUPPORT. Tests of the model: the checks of WellFormed refuse an ill-formed command each, the manual's worked figures and sequences come
out, and for every statement with hypotheses a concrete state and operands meet them. Each expected value is the manual's.
-/
namespace Sys2Proof.Tests

open Machine

/-! ### Helpers -/

/-- The state after a command. -/
def ran (c : Instr) (s : State) : State :=
  match exec c s with
  | .next t => t
  | .fault _ | .refused _ => s

/-- Kind, tag and payload of the reply in the buffer. -/
def replied (s : State) : List Byte :=
  match s.link.reply with
  | some f => f.kind :: f.tag :: f.payload
  | none => []

/-- The state after a request, the reply already gone. -/
def asked (c : Instr) (s : State) : State := { ran c s with link := s.link, notice := s.notice }

/-- A reel without assist sound and subtitles. -/
def reelOf (frames picture : Nat) : Reel :=
  { duration := frames, picture := picture, mainSound := picture + 1, assistSound := none, mainSubtitle := none,
    assistSubtitle := none }

/-- The trailer of section 1.7. -/
def trailer : Entry :=
  { composition := 7, editRate := 24, rate := .hz96000, mainChannels := 6, assistChannels := 0, reels := [reelOf 720 1],
    keys := [], percentage := none }

/-- The feature of section 1.7, under one key. -/
def feature : Entry :=
  { composition := 8, editRate := 48, rate := .hz96000, mainChannels := 6, assistChannels := 0,
    reels := [reelOf 86400 3, reelOf 86400 5], keys := [9], percentage := some 75 }

/-- The programme of section 1.7. -/
def bill : Programme := { id := 5, pauseLimit := 0, entries := [trailer, feature] }

/-- The feature's key: allowance 5, charged count 3 (section 9.6). -/
def featureKey : KeyRecord :=
  { id := 9, composition := 8, scopePicture := true, scopeSound := true, scopeSubtitle := true, contentKey := 1, checkKey := 2,
    windowStart := 1000000, windowEnd := 1086400, allowance := some 5, charged := 3, state := .valid, pinned := false }

/-- A table of 32 places with one record in the first. -/
def tableOf (k : KeyRecord) : KeyTable := { KeyTable.reset with places := some k :: List.replicate 31 none }

/-- A clock within the feature key's window. -/
def noon : Power := { Power.reset with clock := 1000200, clockSet := true }

/-- A show state with the programme held and its key in the table. -/
def house (st : ShowState) : State :=
  { State.reset with
    ctl := { ShowControl.reset with state := st, programme := some bill }
    keys := tableOf featureKey, pwr := noon }

/-- An ARMED show: the key pinned. -/
def armedHouse : State :=
  { house .armed with
    ctl := { ShowControl.reset with state := .armed, programme := some bill, pins := [9] }
    keys := tableOf { featureKey with pinned := true }, intake := { Intake.reset with mode := .fetching } }

/-- The record of a showing whose trailer is over. -/
def openRecord : ShowingRecord :=
  { number := 49, programme := 5, startClock := 1000200, endClock := none, outcome := none, collected := false,
    entries := [
      { composition := 7, framesPlayed := some 720, countPoint := none, charged := false, pictureDefects := 0,
        soundDefects := 0, subtitleDefects := 0, silent := 0 },
      { composition := 8, framesPlayed := none, countPoint := some 129600, charged := false, pictureDefects := 2,
        soundDefects := 1, subtitleDefects := 0, silent := 0 }] }

/-- A RUNNING show in the feature, at a frame and phase. -/
def playingAt (frame phase : Nat) : State :=
  { armedHouse with
    ctl := { ShowControl.reset with state := .running, programme := some bill, pins := [9] }
    tl := { mode := .advancing, rate := .hz96000, entry := 1, reel := 0, frame := frame, phase := phase, samplesPerFrame := 2000,
            total := 172800, countPoint := some 129600 }
    pic := { showing := true, last := none }
    snd := { Sound.reset with mainChannels := 6 }
    acct := { Accounting.reset with log := [openRecord], counter := 49 } }

/-- A STOPPING show with the stop fade after a step. -/
def stoppingAt (step : Nat) : State :=
  { playingAt 129599 1999 with
    ctl := { ShowControl.reset with state := .stopping, programme := some bill, pins := [9], outcome := some .stopped }
    tl := { (playingAt 129599 1999).tl with mode := .frozen }
    pic := { showing := false, last := none }, intake := Intake.reset
    snd := { Sound.reset with
      mainChannels := 6
      pause := { cur := 0, target := 0, ramp := some { start := 16384, target := 0, length := 1920, step := step } } } }

/-- A reply in the transmitter. -/
def sending (f : Frame) (s : State) : State := { s with link := { s.link with reply := some f, transmitter := some (.reply, f) } }

/-- A cue that pulses line 1. -/
def pulseCue : CueRecord :=
  { number := 63, entry := 15, anchor := .finish, offset := 3000000, action := .pulse 1 10000, enabled := true,
    writtenMode := some .pulse }

/-- A Cue Unit with line 1 in mode PULSE. -/
def pulsing : CueUnit := { CueUnit.reset with lines := CueUnit.reset.lines.set 1 { CueLine.reset with mode := .pulse } }

/-- A Cue Unit whose pair 1 is enabled with the dead time of section 8.9, in a state and with a timer. -/
def curtain (st : PairState) (timer : Option Nat) : CueUnit :=
  { CueUnit.reset with
    lines := (CueUnit.reset.lines.set 2 { CueLine.reset with mode := .pair, level := decide (st = .aOn), pin := decide (st = .aOn) }).set 3
      { CueLine.reset with mode := .pair, level := decide (st = .bOn), pin := decide (st = .bOn) }
    pairs := CueUnit.reset.pairs.set 1 { enabled := true, deadTime := 1500, state := st, timer := timer } }

/-- A frame of a payload that fits stands to be taken where the link is as after a reset and no notice is pending. -/
theorem stands (s : State) {kind tag : Byte} {p : List Byte} (hl : s.link = State.reset.link) (hn : s.notice = State.reset.notice)
    (hp : s.pwr.state ≠ .night) (ht : s.pwr.transition = .none) (h : p.length ≤ 1024) : s.asks (requestFrame kind tag p) := by
  constructor
  · simp [State.takes, hp, ht, hl, Link.offers, State.reset, Link.reset, requestFrame, h]
  · simp [State.composed, hn, State.reset, Notices.reset]

/-! ### WellFormed refuses -/

theorem smoke_payload : (Instr.status 0 (List.replicate 1025 0)).wellFormed = false := by
  show payloadFits (List.replicate 1025 0) = false
  rw [payloadFits, List.length_replicate]
  rfl

theorem smoke_known_kind : (Instr.unknownKind 1 0 []).wellFormed = false := by decide

theorem smoke_reply_kind : (Instr.replyKindFrameDiscard 127 0 []).wellFormed = false := by decide

theorem smoke_whole_frame : (Instr.frameReceived [0, 2, 1, 0, 0]).wellFormed = false := by decide

theorem smoke_length_field : (Instr.lengthFault [0, 2]).wellFormed = false := by decide

theorem smoke_gap_after_whole : (Instr.linkGapTimeout [0, 2, 1, 0, 0, 0]).wellFormed = false := by decide

theorem smoke_error_code : (Instr.storageError 0 4).wellFormed = false := by decide

theorem smoke_good_record : (Instr.storageRecordDiscard [0x81]).wellFormed = false := by decide

/-- A unit longer than its 4-byte length field can say is refused (the unit itself is too long to write out). -/
theorem smoke_unit_length (u : List Byte) (h : u.length = 2 ^ 32) : (Instr.storageData 0 u).wellFormed = false := by
  simp [Instr.wellFormed, unitFits, h]

/-! ### The manual's worked figures and sequences -/

/-- The CRC of the nine ASCII bytes 123456789 (R182). -/
theorem test_crc : crc16 [0x31, 0x32, 0x33, 0x34, 0x35, 0x36, 0x37, 0x38, 0x39] = 0x29B1#16 := by decide +kernel

/-- STATUS after power-on: part code 0416h and revision 1, every other field 0 (R186). -/
theorem test_status : replied (ran (.status 9 []) .reset) = [0x81, 9, 0, 0x04, 0x16, 1] ++ List.replicate 30 0 := by
  decide +kernel

/-- Count points of 172,800 frames at 75 %, and of 1,001 frames at 50 % (section 1.7). -/
theorem test_count_points :
    feature.countPoint = some 129600 ∧ ({ trailer with reels := [reelOf 1001 1], percentage := some 50 }).countPoint = some 501 := by
  decide

/-- The entry start of the feature (section 1.7). -/
theorem test_entry_start :
    (playingAt 0 0).tl = Timeline.enterEntry 1 feature { Timeline.reset with mode := .advancing, rate := .hz96000 } := by decide

/-- Anchored positions of section 1.8. -/
theorem test_resolve :
    resolve 172800 .start 200000 = 172800 ∧ resolve 172800 .finish 2880 = 169920 ∧ resolve 172800 .finish 3000000 = 0 ∧
    resolve 1 .start 5 = 1 ∧ resolve 1 .finish 1 = 0 := by decide

/-- Durations of section 1.9. -/
theorem test_durations :
    SampleRate.hz96000.ofUs 250005 = 24000 ∧ SampleRate.hz96000.ofUs 250006 = 24001 ∧ SampleRate.hz48000.ofUs 44167 = 2120 ∧
    SampleRate.hz96000.ofMs 60000 = 5760000 ∧ SampleRate.hz48000.ofMs 5 = 240 := by decide

/-- A sample within a slot advances the phase by one (R6). -/
theorem test_sample_in_slot : (ran .samplePeriod (playingAt 99 1998)).tl = (playingAt 99 1999).tl := by decide

/-- The mix of section 5.10, cases A, B and C, and the two halves. -/
theorem test_mix :
    sat24 (scaleDown 139264000000) = 8388607 ∧ sat24 (scaleDown (-139264000000)) = -8388608 ∧
    scaleDown 16384016384 = 1000001 ∧ scaleDown 8192008192 = 500001 ∧ scaleDown (-8192008192) = -500000 := by decide

/-- Subtitle times of section 7.9, and the half case. -/
theorem test_step_frames :
    stepFrames 48 250 3127 = 600 ∧ stepFrames 48 250 3500 = 672 ∧ stepFrames 48 250 449990 = 86398 ∧ stepFrames 25 1000 19 = 0 ∧
    stepFrames 25 1000 20 = 1 ∧ stepFrames 25 1000 60 = 2 := by decide

/-- Event 12 of section 7.9: a span of one frame, and fades of 1 and 0. -/
theorem test_event_conversion :
    convertEvent .main 48 250 86400
      { number := 12, inSteps := 3600, outSteps := 3600, fadeInSteps := 50, fadeOutSteps := 50, region := 1, style := 0,
        text := [65] } =
    .ok { number := 12, inFrame := 691, outFrame := 692, fadeIn := 1, fadeOut := 0, region := 1, style := 0, text := [65],
          sent := false } := by rfl

/-- The feature's key at its count point: charged 4, still VALID; with allowance 4 it would be SPENT (sections 9.6, 3.9). -/
theorem test_charge :
    featureKey.charge = { featureKey with charged := 4 } ∧
    ({ featureKey with allowance := some 4 }).charge = { featureKey with allowance := some 4, charged := 4, state := .spent } := by
  decide

/-- The curtain pair of section 8.9: A at 0, B at 8,000, and the dead timer's expiry. -/
theorem test_pair_request :
    replied (ran (.pair 7 [1, 2]) { State.reset with cue := curtain .aOn none }) =
      [0xBC, 7, 0, 4, 0, 0, 0, 0, 0x05, 0xDC] := by decide

theorem test_dead_timer_expiry :
    (ran (.deadTimerExpiry 1) { State.reset with cue := curtain .deadB (some 0) }).cue = curtain .bOn none := by decide

/-- A frame of the serial audio output: AFS low then high, 24 bits and 8 zeros of outputs 2k and 2k + 1 on line k, and everything low while
STOPPED (R85). -/
theorem test_audio_frame :
    let x : Sound := { Sound.reset with outputs := (Sound.reset.outputs.set 16 { Output.reset with out := -1 }).set 17 { Output.reset with out := 1 } }
    (x.audioFrame.1.afs = false ∧ x.audioFrame.2.afs = true ∧ x.audioFrame.1.abck = 32) ∧
    (x.audioFrame.1.adat.length = 9 ∧ x.audioFrame.1.adat[8]? = some 0xFFFFFF00#32 ∧ x.audioFrame.2.adat[8]? = some 0x00000100#32) ∧
    ({ x with running := false }).audioFrame =
      ({ afs := false, abck := 0, adat := List.replicate 9 0 }, { afs := false, abck := 0, adat := List.replicate 9 0 }) := by decide

/-- A main unit LOST and an assist unit LATE at one slot start: INTAKE_FAULT joins the pending order at the take of step 2, SOUND_FAULT at
step 3 (R88). -/
theorem test_sound_order :
    let lost : QueueEntry :=
      { pos := { entry := 1, reel := 0, unit := 5 }, status := .lost .storage, failures := 0, reread := false, slot := none }
    let s : State := { playingAt 5 0 with
      snd := { Sound.reset with mainChannels := 6, assistChannels := 1 }
      intake := { Intake.reset with mode := .fetching, sq0 := [lost] } }
    (s.soundSlotStart 1 5).notice.order.map PendingSource.source = [.intakeFault, .soundFault] := by decide +kernel

/-- SUBTITLE QUERY sends entry and reel before the status, and zeros for an absent table (R136, R188). -/
theorem test_subtitle_places :
    placeBytes (some { entry := 1, reel := 2, lost := true, events := [], defects := 3 }) = [1, 2, 2, 0, 0, 0, 0, 0, 3] ∧
    placeBytes none = List.replicate 9 0 := by decide

/-- LOG READ sends an entry in play with the Timeline's frame, and one whose frames played are set with those (R153, R162). -/
theorem test_frames_played :
    (openRecord.entries.map fun e => ((e.bytes 99).drop 16).take 5) = [[0, 0, 0, 0x02, 0xD0], [1, 0, 0, 0, 99]] := by decide

/-- A full queue (section 12.6): the fifth frame is answered OVERFLOW. -/
theorem test_overflow :
    (ran (.frameReceived (requestFrame 1 5 []).bytes)
      { State.reset with link := { State.reset.link with queue := List.replicate 4 (requestFrame 1 1 []) } }).link.overflow =
      [{ kind := 0x81, tag := 5, payload := [18] }] := by decide +kernel

/-- The night of section 11.5: the end of the NIGHT reply enters NIGHT, and second 1,030,000 wakes the part with cause TIME. -/
theorem test_night_entry :
    (ran .transmitComplete (sending (requestFrame 140 0 [0])
      { State.reset with pwr := { Power.reset with transition := .night } })).pwr.state = .night := by decide

theorem test_wake_line :
    (ran .wakeLineFall { State.reset with pwr := { noon with state := .night } }).pwr.wake = some (.line, 1000200) := by decide

/-! ### Witnesses: states and operands that meet a statement's hypotheses, clause by clause -/

/-- EveryCommandAnswersANextState: a frame that is not there, NIGHT, a millisecond one sample period short, and a part after a power-on,
with nothing under way; and a timer with one millisecond left. -/
theorem witness_what_cannot_happen :
    let asleep : State := { State.reset with pwr := { noon with state := .night } }
    let waits : State := { house .arming with ctl := { (house .arming).ctl with armTimer := some 1 } }
    (∀ tag p, asleep.takes { kind := 1, tag := tag, payload := p } = false) ∧ asleep.pwr.state = .night ∧ asleep.composed = true ∧
    (State.reset.pwr.state = .active ∧ ({ State.reset with cue := { CueUnit.reset with msTaken := 47 } } : State).cue.msTaken < 48) ∧
    State.reset.link.transmitter = none ∧ (∀ l ∈ State.reset.cue.lines, l.pulse ≠ some 0) ∧
    (∀ p ∈ State.reset.cue.pairs, p.timer ≠ some 0) ∧ (∀ y ∈ State.reset.snd.outputs, y.fader.ramp = none ∧ y.switch.ramp = none) ∧
    (waits.composed = true ∧ waits.ctl.state = .arming ∧ waits.ctl.armTimer ≠ some 0) ∧ State.reset.meter.state ≠ .measuring ∧
    (∀ x ∈ State.reset.intake.slots, x = none) ∧ State.reset.intake.mode = .idle := by
  refine ⟨fun _ _ => rfl, rfl, rfl, by decide, rfl, by decide, by decide, by decide, ⟨rfl, rfl, by decide⟩, by decide, by decide, rfl⟩

theorem house_asks (st : ShowState) {kind tag : Byte} {p : List Byte} (h : p.length ≤ 1024) :
    (house st).asks (requestFrame kind tag p) := stands _ rfl rfl (by simp [house, noon, Power.reset]) rfl h

theorem reset_asks {kind tag : Byte} {p : List Byte} (h : p.length ≤ 1024) : State.reset.asks (requestFrame kind tag p) :=
  stands _ rfl rfl (by decide) rfl h

theorem playing_showKept : (playingAt 99 1999).showKept := by
  unfold State.showKept
  refine ⟨by decide, by decide, by decide, by decide, by decide, by decide, by decide, by decide⟩

theorem playing_programmeKept : (playingAt 99 1999).programmeKept := by
  refine ⟨fun p h => ?_, fun b h => by cases h⟩
  obtain rfl : bill = p := Option.some.inj h
  refine ⟨by decide, by decide, ?_⟩
  intro e he
  simp only [bill, List.mem_cons, List.not_mem_nil, or_false] at he
  rcases he with rfl | rfl <;> refine ⟨by decide, by decide, ?_⟩ <;> decide

theorem playing_positionKept : (playingAt 99 1999).positionKept := by
  refine ⟨by decide, fun _ => ⟨feature, by decide, by decide, by decide⟩, fun _ => by decide, fun h => by cases h⟩

theorem playing_keysKept : (playingAt 99 1999).keysKept := by
  unfold State.keysKept
  refine ⟨by decide, by simp [playingAt, armedHouse, tableOf], ?_, ?_, by decide⟩
  · intro k h
    simp [playingAt, armedHouse, tableOf] at h
    subst h
    decide
  · intro i h
    simp [playingAt] at h
    subst h
    simp [playingAt, armedHouse, tableOf, KeyTable.find, featureKey]

theorem playing_intakeKept : (playingAt 99 1999).intakeKept := by
  unfold State.intakeKept
  refine ⟨by decide, by decide, by decide, by decide, by decide, ?_, by decide, fun h => by cases h⟩
  intro r h
  simp [playingAt, armedHouse, Intake.reset] at h

theorem playing_logKept : (playingAt 99 1999).logKept := by
  unfold State.logKept
  refine ⟨by decide, by decide, by decide, by decide⟩

theorem playing_noticesKept : (playingAt 99 1999).noticesKept := by
  refine ⟨by decide, by decide, by decide, ?_⟩
  intro src f h
  cases h

theorem playing_linkKept : (playingAt 99 1999).linkKept := by
  refine ⟨by decide, by decide, by decide, trivial, ?_, by decide, by decide⟩
  intro f h
  cases h

theorem playing_linesKept : (playingAt 99 1999).linesKept := by
  refine ⟨by decide, by decide, by decide, ?_, ?_, ?_, fun b h => by cases h⟩
  · intro k hk
    interval_cases k <;> unfold CueUnit.pairKept <;> decide
  · intro c h; cases h
  · intro c h; cases h

/-- Every hypothesis of the ten statements about every step, in a RUNNING show whose slot is about to end. -/
theorem witness_every_step :
    let s := { playingAt 99 1999 with pending := [.samplePeriod] }
    s.showKept ∧ s.programmeKept ∧ s.positionKept ∧ s.keysKept ∧ s.intakeKept ∧ s.logKept ∧ s.noticesKept ∧ s.linkKept ∧ s.linesKept ∧
    ∃ t, step s = .next t :=
  ⟨playing_showKept, playing_programmeKept, playing_positionKept, playing_keysKept, playing_intakeKept, playing_logKept,
    playing_noticesKept, playing_linkKept, playing_linesKept, _, rfl⟩

/-- ReceivedFrameIsTheFrameSent: room, a full queue with room in the overflow list and with none, a reply kind, a transition. -/
theorem witness_received_frame :
    let full : State := { State.reset with link := { State.reset.link with queue := List.replicate 4 (requestFrame 1 1 []) } }
    let flooded : State := { full with link := { full.link with overflow := List.replicate 4 (requestFrame 129 1 [18]) } }
    let f := requestFrame 127 5 [1]
    (f.payload.length ≤ 1024 ∧ State.reset.pwr.state ≠ .night ∧ State.reset.link.receiver = .awaiting ∧ State.reset.composed = true ∧
      State.reset.pwr.transition = .none ∧ State.reset.link.queue.length < 4) ∧
    (full.link.receiver = .awaiting ∧ full.composed = true ∧ 4 ≤ full.link.queue.length ∧ f.kind.toNat < 128 ∧
      full.link.overflow.length < 4) ∧
    (flooded.composed = true ∧ 4 ≤ flooded.link.queue.length ∧ 4 ≤ flooded.link.overflow.length) ∧
    128 ≤ (requestFrame 128 5 []).kind.toNat ∧
    ({ noon with transition := .night }).transition ≠ .none := by decide +kernel

/-- LinkFaultsAndUnownedFrames: the lengths 1 and 1,027, a gap after one byte and after five, a wrong check, a FREE and a HELD record, and the
kinds beside the table of section 12.4. -/
theorem witness_link_faults :
    let held : FaultRecord := { kind := .frame, cause := .check, place := none, clock := 0, detail := [], repeated := false }
    let s : State := { State.reset with caps := { Captures.reset with link := some held } }
    (State.reset.pwr.state ≠ .night ∧ State.reset.link.receiver = .awaiting ∧ State.reset.composed = true ∧ State.reset.caps.link = none) ∧
    (s.pwr.state ≠ .night ∧ s.link.receiver = .awaiting ∧ s.composed = true ∧ s.caps.get .link = some held) ∧
    badFrameStart [0, 1] = true ∧ badFrameStart [4, 3] = true ∧ partialFrame [4] = true ∧ partialFrame [0, 2, 1, 0, 0] = true ∧
    wholeFrame [0, 2, 1, 0, 0, 0] = true ∧
    ([0, 2, 1, 0, 0, 0] : List Byte).drop 4 ≠ beBytes 2 (crc16 (([0, 2, 1, 0, 0, 0] : List Byte).take 4)).toNat := by decide +kernel

theorem witness_frames_without_an_owner :
    let owned (k : Nat) : Prop :=
      (1 ≤ k ∧ k ≤ 5) ∨ (8 ≤ k ∧ k ≤ 13) ∨ (16 ≤ k ∧ k ≤ 27) ∨ (32 ≤ k ∧ k ≤ 36) ∨ (40 ≤ k ∧ k ≤ 48) ∨ k = 50 ∨ k = 51 ∨
      (56 ≤ k ∧ k ≤ 65) ∨ (72 ≤ k ∧ k ≤ 74)
    (∀ kind : Byte, State.reset.asks (requestFrame kind 0 [])) ∧ (∀ k ∈ [0, 6, 14, 28, 49, 52, 75, 127], ¬owned k) ∧
    128 ≤ (128 : Byte).toNat := by
  refine ⟨fun _ => reset_asks (by decide), by decide, by decide⟩

/-- TransmissionEnds: a reply, an OVERFLOW reply and a notice in the transmitter. -/
theorem witness_transmission_ends :
    let sent (x : Transmitting) : State :=
      { State.reset with link := { State.reset.link with transmitter := some (x, requestFrame 129 0 [0]) } }
    ∀ x, x = .reply ∨ x = .overflow ∨ x = .notice .wake →
      (sent x).composed = true ∧ (sent x).pwr.transition = .none ∧ (sent x).pwr.state ≠ .night ∧
      (sent x).link.transmitter = some (x, requestFrame 129 0 [0]) := by
  intro sent x _
  exact ⟨rfl, rfl, nofun, rfl⟩

/-- The statements about one request, NoticeClearAndNoticeEnable among them: its frame stands in the part after a power-on, with an empty payload, one of one byte too few or
too many, and one at the ends of each range. -/
theorem witness_status_and_notices :
    State.reset.asks (requestFrame 1 0 []) ∧ State.reset.asks (requestFrame 1 0 [0]) ∧
    State.reset.asks (requestFrame 3 0 []) ∧ State.reset.asks (requestFrame 3 0 [13]) ∧
    State.reset.asks (requestFrame 3 0 [BitVec.ofNat 8 Source.wake.num]) ∧
    State.reset.asks (requestFrame 2 0 [0]) ∧
    (State.reset.asks (requestFrame 2 0 [0x20, 0]) ∧ 8192 ≤ field [0x20, 0] 0 2) ∧
    State.reset.asks (requestFrame 2 0 (beBytes 2 (BitVec.allOnes 13).toNat)) :=
  ⟨reset_asks (by decide), reset_asks (by decide), reset_asks (by decide), reset_asks (by decide), reset_asks (by decide),
    reset_asks (by decide), ⟨reset_asks (by decide), by decide⟩, reset_asks (by decide)⟩

theorem witness_fault_records :
    State.reset.asks (requestFrame 4 0 []) ∧ (State.reset.asks (requestFrame 4 0 [4]) ∧ 3 < (4 : Byte).toNat) ∧
    (State.reset.asks (requestFrame 4 0 [3]) ∧ (3 : Byte).toNat ≤ 3) ∧
    State.reset.asks (requestFrame 5 0 []) ∧ State.reset.asks (requestFrame 5 0 [4]) ∧
    (State.reset.asks (requestFrame 5 0 [0]) ∧ (0 : Byte).toNat ≤ 3) :=
  ⟨reset_asks (by decide), ⟨reset_asks (by decide), by decide⟩, ⟨reset_asks (by decide), by decide⟩, reset_asks (by decide),
    reset_asks (by decide), reset_asks (by decide), by decide⟩

/-- ClockSetAndWakeAt: a value of all ones, and wake times at the clock and one second past it. -/
theorem witness_clock_and_wake :
    State.reset.asks (requestFrame 8 0 []) ∧
    (State.reset.asks (requestFrame 8 0 [255, 255, 255, 255]) ∧ State.reset.ctl.schedule = none) ∧
    State.reset.asks (requestFrame 9 0 []) ∧ State.reset.asks (requestFrame 9 0 [0, 0, 0, 0, 0]) ∧
    (State.reset.asks (requestFrame 9 0 (1 :: beBytes 4 0)) ∧ 0 ≤ State.reset.pwr.clock) ∧
    (State.reset.asks (requestFrame 9 0 (1 :: beBytes 4 1)) ∧ State.reset.pwr.clock < 1) :=
  ⟨reset_asks (by decide), ⟨reset_asks (by decide), by decide⟩, reset_asks (by decide), reset_asks (by decide),
    ⟨reset_asks (by decide), by decide⟩, reset_asks (by decide), by decide⟩

/-- ReadyActiveAndNight: its READY and ACTIVE. -/
theorem witness_ready_and_active :
    let off : State := { State.reset with pwr := { Power.reset with state := .ready } }
    ((house .arming).asks (requestFrame 10 0 []) ∧ (house .arming).pwr.state = .active ∧ (house .arming).ctl.state = .arming) ∧
    (State.reset.asks (requestFrame 10 0 []) ∧ State.reset.pwr.state = .active ∧ State.reset.ctl.state = .empty) ∧
    ((house .loaded).asks (requestFrame 10 0 []) ∧ (house .loaded).ctl.state = .loaded) ∧
    (off.asks (requestFrame 10 0 []) ∧ off.asks (requestFrame 11 0 []) ∧ off.pwr.state = .ready) ∧
    State.reset.asks (requestFrame 11 0 []) :=
  ⟨⟨house_asks _ (by decide), rfl, rfl⟩, ⟨reset_asks (by decide), rfl, rfl⟩, ⟨house_asks _ (by decide), rfl⟩,
    ⟨stands _ rfl rfl (by decide) rfl (by decide), stands _ rfl rfl (by decide) rfl (by decide), rfl⟩, reset_asks (by decide)⟩

/-- ReadyActiveAndNight, its NIGHT, and RestartIsTakenWhole. -/
theorem witness_night_and_restart :
    ((house .stopping).asks (requestFrame 12 0 []) ∧ (house .stopping).pwr.state = .active) ∧
    (State.reset.asks (requestFrame 12 0 []) ∧ State.reset.ctl.state = .empty) ∧
    (let s := sending (requestFrame 140 0 [0]) { State.reset with pwr := { Power.reset with transition := .night } }
     s.pwr.transition = .night ∧ s.link.transmitter = some (.reply, requestFrame 140 0 [0])) ∧
    (playingAt 99 1999).asks (requestFrame 13 0 []) ∧
    (let s := sending (requestFrame 141 0 [0]) { playingAt 99 1999 with pwr := { noon with transition := .restart } }
     s.pwr.transition = .restart ∧ s.link.transmitter = some (.reply, requestFrame 141 0 [0])) ∧
    (playingAt 99 1999).pwr.state ≠ .night ∧ ({ noon with state := .night }).state = .night :=
  ⟨⟨house_asks _ (by decide), rfl⟩, ⟨reset_asks (by decide), rfl⟩, ⟨rfl, rfl⟩, stands _ rfl rfl (by decide) rfl (by decide),
    ⟨rfl, rfl⟩, by decide, rfl⟩

/-- BoothClockSecond: no wake time, one reached in NIGHT, and the clock at its greatest value. -/
theorem witness_booth_clock_second :
    (State.reset.ctl.schedule = none ∧ State.reset.composed = true ∧ State.reset.pwr.clock ≤ 4294967295 ∧
      State.reset.pwr.state ≠ .night) ∧
    (let w : Power := { noon with state := .night, clock := 1029999, wakeTime := some 1030000 }
     w.clock < 4294967295 ∧ w.wakeTime.any (· ≤ w.clock + 1) = true ∧ w.state = .night) ∧
    ({ noon with clock := 4294967295 }).clock ≤ 4294967295 := by decide +kernel

/-! #### Show programmes -/

/-- A build of so many entries and cues under way in EMPTY. -/
def building (entryCount : Nat) (cueCount : Option Nat) (entries : List Entry) : State :=
  { State.reset with
    ctl := { ShowControl.reset with
      build := some { id := 5, entryCount := entryCount, pauseLimit := 7200, cueCount := cueCount, entries := entries, cues := [],
                      next := entries.length + 1 } }
    cue := pulsing }

theorem building_asks {n : Nat} {c : Option Nat} {es : List Entry} {kind tag : Byte} {p : List Byte} (h : p.length ≤ 1024) :
    (building n c es).asks (requestFrame kind tag p) := stands _ rfl rfl nofun rfl h

/-- ShowLoadHeader: BUSY, BAD_LENGTH, each count just out of range, both ends of the ranges, and a part out of order. -/
theorem witness_show_load_header :
    ((house .running).asks (requestFrame 16 0 []) ∧ (house .running).ctl.state = .running) ∧
    (State.reset.asks (requestFrame 16 0 [0, 0, 0, 0]) ∧ State.reset.ctl.state = .empty) ∧
    State.reset.asks (requestFrame 16 0 (headerPart 0 0 0 none)) ∧ State.reset.asks (requestFrame 16 0 (headerPart 0 17 0 none)) ∧
    State.reset.asks (requestFrame 16 0 (headerPart 0 1 7201 none)) ∧
    State.reset.asks (requestFrame 16 0 (headerPart 0 1 0 (some 65))) ∧
    State.reset.asks (requestFrame 16 0 (headerPart 4294967295 16 7200 (some 64))) ∧
    State.reset.asks (requestFrame 16 0 (headerPart 0 1 0 none)) ∧
    (State.reset.asks (requestFrame 16 0 (1 :: (beBytes 4 5 ++ []))) ∧ State.reset.ctl.build = none) ∧
    ((building 2 none []).asks (requestFrame 16 0 (2 :: (beBytes 4 5 ++ []))) ∧ (2 : Byte).toNat ≠ 1) :=
  ⟨⟨house_asks _ (by decide), rfl⟩, ⟨reset_asks (by decide), rfl⟩, reset_asks (by decide), reset_asks (by decide),
    reset_asks (by decide), reset_asks (by decide), reset_asks (by decide), reset_asks (by decide), ⟨reset_asks (by decide), rfl⟩,
    building_asks (by decide), by decide⟩

theorem feature_loads : feature.loads := by
  refine ⟨⟨by decide, by decide, by decide⟩, by decide, by decide, by decide, by decide, by decide, by decide, ?_, ?_⟩
  · intro q h
    obtain rfl : 75 = q := Option.some.inj h
    decide
  · intro r h
    simp only [feature, List.mem_cons, List.not_mem_nil, or_false] at h
    rcases h with rfl | rfl <;> refine ⟨by decide, by decide, by decide, nofun, nofun, nofun⟩

/-- ShowLoadEntryIsTheEntrySent: an entry that others follow, and the last one without and with an empty cue list. -/
theorem witness_show_load_entry :
    feature.loads ∧
    ((building 2 none []).asks (requestFrame 16 0 (entryPart 1 5 feature)) ∧ ([] : List Entry).length + 1 < 2) ∧
    ((building 1 none []).asks (requestFrame 16 0 (entryPart 1 5 feature)) ∧ ([] : List Entry).length + 1 = 1) ∧
    (building 1 (some 0) []).asks (requestFrame 16 0 (entryPart 1 5 feature)) ∧
    (building 1 (some 64) []).asks (requestFrame 16 0 (entryPart 1 5 feature)) :=
  ⟨feature_loads, ⟨building_asks (by decide), by decide⟩, ⟨building_asks (by decide), by decide⟩, building_asks (by decide),
    building_asks (by decide)⟩

theorem pulseCue_inRange : pulseCue.inRange ∧ pulsing.fits pulseCue.action = true ∧
    pulseCue.writtenMode = pulseCue.action.lineOf.map pulsing.modeOf := by
  refine ⟨⟨by decide, by decide, by decide, by decide, by decide, by decide⟩, by decide, by decide⟩

/-- ShowLoadCuesInstallBothLists: the cue that completes a build; 32 cues of 33; one cue too few; the first number and entry out of
range, a line that is in another mode and a number sent twice; lengths one off; an entry with each field just out of its range, and cut
or extended by a byte. -/
theorem witness_show_load_cues :
    let s := building 1 (some 1) [feature]
    let more := building 1 (some 33) [feature]
    let part (cs : List CueRecord) := beBytes 1 2 ++ beBytes 4 5 ++ beBytes 1 cs.length ++ cs.flatMap CueRecord.edit
    let cues := (List.range 32).map fun n => { pulseCue with number := n }
    let twice := [pulseCue, pulseCue]
    (s.asks (requestFrame 16 0 (part [pulseCue])) ∧ s.ctl.state = .empty ∧ ([pulseCue].map CueRecord.number).Nodup ∧
      pulseCue.inRange ∧ s.cue.fits pulseCue.action = true ∧
      pulseCue.writtenMode = pulseCue.action.lineOf.map s.cue.modeOf) ∧
    (more.asks (requestFrame 16 0 (part cues)) ∧ cues.length = 32 ∧ 0 + 32 < 33 ∧ (cues.map CueRecord.number).Nodup ∧
      ∀ c ∈ cues, c.number < 64 ∧ c.action = pulseCue.action ∧ c.writtenMode = pulseCue.writtenMode) ∧
    (s.asks (requestFrame 16 0 (part [])) ∧ ([] : List CueRecord).length ≠ min 32 (1 - 0)) ∧
    (∀ c ∈ [{ pulseCue with number := 64 }, { pulseCue with entry := 16 }, { pulseCue with offset := 3000001 },
        { pulseCue with action := .line 1 .set }],
      s.asks (requestFrame 16 0 (part [c])) ∧ c.number < 256 ∧ c.entry < 256 ∧ c.offset < 2 ^ 32 ∧
      ¬(c.number < 64 ∧ c.entry < 16 ∧ c.offset ≤ 3000000 ∧ s.cue.fits c.action = true)) ∧
    (s.asks (requestFrame 16 0 (part twice)) ∧ ¬(twice.map CueRecord.number).Nodup) ∧
    (s.asks (requestFrame 16 0 (2 :: (beBytes 4 5 ++ []))) ∧ s.asks (requestFrame 16 0 (2 :: (beBytes 4 5 ++ [1]))) ∧
      ([] : List Byte).length ≠ 16 * (1 : Byte).toNat) := by
  refine ⟨⟨building_asks (by decide), rfl, by decide, pulseCue_inRange.1, pulseCue_inRange.2⟩,
    ⟨building_asks ?_, by decide, by decide, by decide, by decide⟩, ⟨building_asks (by decide), by decide⟩, ?_,
    ⟨building_asks (by decide), by decide⟩, ⟨building_asks (by decide), building_asks (by decide), by decide⟩⟩
  · have h : (fun c => (CueRecord.edit c).length) ∘ (fun n => ({ pulseCue with number := n } : CueRecord)) = fun _ => 16 := funext fun _ => rfl
    simp only [List.length_append, List.length_flatMap, List.map_map, h]
    decide
  intro c hc
  refine ⟨?_, ?_⟩
  · simp only [List.mem_cons, List.not_mem_nil, or_false] at hc
    rcases hc with rfl | rfl | rfl | rfl <;> exact building_asks (by decide)
  · revert c; decide

/-- ShowLoadCuesInstallBothLists, the entry parts. -/
theorem witness_show_load_entry_refused :
    (∀ e ∈ [{ feature with editRate := 26 }, { feature with mainChannels := 17 }, { feature with assistChannels := 3 },
        { feature with reels := [] }, { feature with reels := [reelOf 250001 3] },
        { feature with keys := [9, 9] }, { feature with keys := [1, 2, 3, 4] }, { feature with percentage := some 101 }],
      (building 1 none []).asks (requestFrame 16 0 (entryPartAt 0 1 5 e)) ∧
      e.editRate < 256 ∧ e.mainChannels < 256 ∧ e.assistChannels < 256 ∧ e.reels.length < 256 ∧ e.keys.length < 256 ∧
      (∀ q, e.percentage = some q → 1 ≤ q ∧ q < 256)) ∧
    (building 1 none []).asks (requestFrame 16 0 (entryPartAt 2 1 5 feature)) ∧ feature.encodable ∧
    (building 1 none []).asks (requestFrame 16 0 (entryPartAt 0 1 5 feature ++ [0])) ∧
    (building 1 none []).asks (requestFrame 16 0 ((entryPartAt 0 1 5 feature).take 69)) := by
  refine ⟨?_, building_asks (by decide), ?_, building_asks (by decide), building_asks (by decide)⟩
  · intro e he
    simp only [List.mem_cons, List.not_mem_nil, or_false] at he
    rcases he with rfl | rfl | rfl | rfl | rfl | rfl | rfl | rfl <;>
      exact ⟨building_asks (by decide), by decide, by decide, by decide, by decide, by decide, by
        intro q h; cases h; decide⟩
  · refine ⟨by decide, by decide, by decide, by decide, by decide, by intro q h; cases h; decide, ?_⟩
    intro r hr
    simp only [feature, List.mem_cons, List.not_mem_nil, or_false] at hr
    rcases hr with rfl | rfl <;> refine ⟨by decide, by decide, by decide, by decide, nofun, nofun, nofun⟩

/-- ShowUnloadDiscardsTheProgramme, PauseResumeAndStop, HaltInEveryShowState and ShowStartRunsTheShow's refusal: every show state takes
their requests. -/
theorem witness_show_states (st : ShowState) :
    (house st).ctl.state = st ∧ (house st).ctl.programme = some bill ∧
    ∀ kind : Byte, (house st).asks (requestFrame kind 0 []) ∧ (house st).asks (requestFrame kind 0 [0]) :=
  ⟨rfl, rfl, fun _ => ⟨house_asks _ (by decide), house_asks _ (by decide)⟩⟩

/-! #### SHOW ARM -/

theorem house_find (st : ShowState) : (house st).keys.find 9 = some featureKey := by
  simp [house, tableOf, KeyTable.find, featureKey]

/-- A record bound to the feature that covers everything unlocks the whole bill. -/
theorem bill_unlocks {s : State} {k : KeyRecord} (hf : s.keys.find 9 = some k) (hc : k.composition = 8) (h : ∀ t, k.covers t = true) :
    ∀ e ∈ bill.entries, s.unlocks e := by
  intro e he
  simp only [bill, List.mem_cons, List.not_mem_nil, or_false] at he
  rcases he with rfl | rfl
  · exact ⟨nofun, fun h => absurd rfl h⟩
  · refine ⟨?_, fun _ t _ => ⟨9, by decide, k, hf, h t⟩⟩
    intro i hi
    obtain rfl : i = 9 := by simpa [feature] using hi
    exact ⟨k, hf, hc, .picture, by decide, h _⟩

theorem house_unlocks : ∀ e ∈ bill.entries, (house .loaded).unlocks e :=
  bill_unlocks (house_find _) rfl (by intro t; cases t <;> rfl)

theorem house_keys : ∀ e ∈ bill.entries, ∀ i ∈ e.keys, (house .loaded).validKey i ∧ (house .loaded).allows bill i := by
  intro e he i hi
  obtain rfl : i = 9 := by
    simp only [bill, List.mem_cons, List.not_mem_nil, or_false] at he
    rcases he with rfl | rfl <;> simp_all [trailer, feature]
  refine ⟨⟨_, house_find _, rfl⟩, ?_⟩
  intro k n hk hn
  rw [house_find] at hk
  obtain rfl := Option.some.inj hk
  obtain rfl : 5 = n := Option.some.inj hn
  decide

/-- ShowArmAccepted: the programme of section 1.7 under a key with room for one more charge than it needs. -/
theorem witness_show_arm_accepted :
    let s := house .loaded
    s.asks (requestFrame 18 0 []) ∧ s.ctl.state = .loaded ∧ s.ctl.programme = some bill ∧ bill.entries ≠ [] ∧
    s.pwr.state = .active ∧ s.pwr.clockSet = true ∧ (∀ e ∈ bill.entries, ∀ d ∈ bill.entries, e.rate = d.rate) ∧
    (∀ e ∈ bill.entries, s.unlocks e) ∧ (∀ e ∈ bill.entries, ∀ i ∈ e.keys, s.validKey i ∧ s.allows bill i) ∧ s.hasRoom :=
  ⟨house_asks _ (by decide), rfl, rfl, by decide, rfl, rfl, by decide, house_unlocks, house_keys, .inl (by decide)⟩

/-- A LOADED show of one programme, key table and clock. -/
def loaded (p : Programme) (k : KeyTable) (w : Power) (log : List ShowingRecord) : State :=
  { State.reset with
    ctl := { ShowControl.reset with state := .loaded, programme := some p }
    keys := k, pwr := w, acct := { Accounting.reset with log := log } }

/-- ShowArmRefusals, checks 1 to 3: READY, the clock not set, a second entry at the other rate. -/
theorem witness_arm_checks_1_to_3 :
    let mixed : Programme := { bill with entries := [trailer, { feature with rate := .hz48000 }] }
    ((loaded bill .reset { noon with state := .ready } []).asks (requestFrame 18 0 []) ∧
      (loaded bill .reset { noon with state := .ready } []).pwr.state ≠ .active) ∧
    (State.reset.asks (requestFrame 18 0 []) ∧ (house .paused).asks (requestFrame 18 0 [])) ∧
    (loaded bill .reset .reset []).pwr.clockSet = false ∧
    firstAt mixed.entries (fun e => e.rate ≠ trailer.rate) 1 { feature with rate := .hz48000 } := by
  refine ⟨⟨stands _ rfl rfl (by decide) rfl (by decide), by decide⟩, ⟨reset_asks (by decide), house_asks _ (by decide)⟩, rfl, rfl,
    by decide, ?_⟩
  intro j hj x hx
  obtain rfl : j = 0 := by omega
  obtain rfl : trailer = x := Option.some.inj hx
  simp

/-- Check 4: a key id without a record, and a record that does not cover subtitles of an entry that has them. -/
theorem witness_arm_check_4 :
    let s := loaded bill .reset noon []
    let subtitled : Entry := { feature with reels := [{ reelOf 24 3 with mainSubtitle := some 9 }] }
    let t := loaded { bill with entries := [subtitled] } (tableOf { featureKey with scopeSubtitle := false }) noon []
    (firstAt bill.entries (fun e => ¬s.unlocks e) 1 feature ∧ firstAt feature.keys (fun k => ¬s.binds feature k) 0 9) ∧
    (firstAt [subtitled] (fun e => ¬t.unlocks e) 0 subtitled ∧ (∀ k ∈ subtitled.keys, t.binds subtitled k) ∧
      subtitled.keys.head? = some 9) := by
  intro s subtitled t
  have hf : s.keys.find 9 = none := by simp [s, loaded, KeyTable.reset, KeyTable.find, Config.keyPlaces]
  have hb : ¬s.binds feature 9 := by
    rintro ⟨k, hk, -⟩
    rw [hf] at hk
    cases hk
  have ht : t.keys.find 9 = some { featureKey with scopeSubtitle := false } := by
    simp [t, loaded, tableOf, KeyTable.find, featureKey]
  refine ⟨⟨⟨rfl, fun h => hb (h.1 9 (by decide)), ?_⟩, rfl, hb, nofun⟩, ⟨rfl, ?_, nofun⟩, ?_, rfl⟩
  · intro j hj x hx
    obtain rfl : j = 0 := by omega
    obtain rfl : trailer = x := Option.some.inj hx
    exact not_not.mpr ⟨nofun, fun h => absurd rfl h⟩
  · intro h
    obtain ⟨i, hi, k, hk, hc⟩ := h.2 (by decide) .subtitle (by decide)
    obtain rfl : i = 9 := by simpa [subtitled, feature] using hi
    rw [ht] at hk
    obtain rfl := Option.some.inj hk
    cases hc
  · intro k hk
    obtain rfl : k = 9 := by simpa [subtitled, feature] using hk
    exact ⟨_, ht, rfl, .picture, by decide, rfl⟩

/-- Checks 5 to 7: a PENDING key, one charge too many, and 48 records of which none is collected; the checks before them pass. -/
theorem witness_arm_checks_5_to_7 :
    let s := loaded bill (tableOf { featureKey with state := .pending }) noon []
    let t := loaded bill (tableOf { featureKey with charged := 5 }) noon []
    let log := List.replicate 48 { openRecord with outcome := some .stopped }
    ((∀ e ∈ bill.entries, s.unlocks e) ∧ firstAt bill.entries (fun e => ∃ k ∈ e.keys, ¬s.validKey k) 1 feature ∧
      firstAt feature.keys (fun k => ¬s.validKey k) 0 9) ∧
    ((∀ e ∈ bill.entries, t.unlocks e) ∧ (∀ e ∈ bill.entries, ∀ k ∈ e.keys, t.validKey k) ∧
      firstAt bill.entries (fun e => ∃ k ∈ e.keys, ¬t.allows bill k) 1 feature ∧
      firstAt feature.keys (fun k => ¬t.allows bill k) 0 9) ∧
    (loaded bill (tableOf featureKey) noon log).asks (requestFrame 18 0 []) ∧ log.length = 48 ∧ (∀ r ∈ log, r.collected = false) := by
  intro s t log
  have hs : s.keys.find 9 = some { featureKey with state := .pending } := by simp [s, loaded, tableOf, KeyTable.find, featureKey]
  have ht : t.keys.find 9 = some { featureKey with charged := 5 } := by simp [t, loaded, tableOf, KeyTable.find, featureKey]
  have hv : ¬s.validKey 9 := by
    rintro ⟨k, hk, hv⟩
    rw [hs] at hk
    obtain rfl := Option.some.inj hk
    cases hv
  have ha : ¬t.allows bill 9 := by
    intro h
    have := h _ 5 ht rfl
    revert this
    decide
  have none0 (P : Id → Prop) : ∀ j, j < 1 → ∀ x, bill.entries[j]? = some x → ¬∃ k ∈ x.keys, P k := by
    intro j hj x hx
    obtain rfl : j = 0 := by omega
    obtain rfl : trailer = x := Option.some.inj hx
    rintro ⟨k, hk, -⟩
    cases hk
  refine ⟨⟨bill_unlocks hs rfl (by intro t; cases t <;> rfl), ⟨rfl, ⟨9, by decide, hv⟩, none0 _⟩, rfl, hv, nofun⟩,
    ⟨bill_unlocks ht rfl (by intro t; cases t <;> rfl), ?_, ⟨rfl, ⟨9, by decide, ha⟩, none0 _⟩, rfl, ha, nofun⟩,
    stands _ rfl rfl nofun rfl (by decide), by simp [log], ?_⟩
  · intro e he k hk
    obtain rfl : k = 9 := by
      simp only [bill, List.mem_cons, List.not_mem_nil, or_false] at he
      rcases he with rfl | rfl <;> simp_all [trailer, feature]
    exact ⟨_, ht, rfl⟩
  · intro r hr
    obtain rfl := List.eq_of_mem_replicate hr
    rfl

/-! #### Starting, pausing, stopping -/

theorem armedHouse_find : armedHouse.keys.find 9 = some { featureKey with pinned := true } := by
  simp [armedHouse, tableOf, KeyTable.find, featureKey]

/-- An ARMED show with a queue of pictures and a log. -/
def readyToStart (pq : List QueueEntry) (log : List ShowingRecord) : State :=
  { armedHouse with
    intake := { Intake.reset with mode := .fetching, pq := pq }
    acct := { Accounting.reset with log := log, counter := 4294967295 } }

/-- The first picture of the trailer, opened. -/
def firstPicture : QueueEntry :=
  { pos := { entry := 0, reel := 0, unit := 0 }, status := .ready [1], failures := 0, reread := false, slot := none }

/-- ShowStartRunsTheShow: not ARMED (witness_show_states), a failing pin, a READY first picture and an empty queue, a full log whose
oldest record is collected. -/
theorem witness_show_start :
    let s := readyToStart [firstPicture] []
    let full := List.replicate 47 { openRecord with outcome := some .stopped }
    let old := { openRecord with outcome := some .stopped, collected := true }
    let t := readyToStart [] ([] ++ old :: full)
    let u := { armedHouse with keys := tableOf { featureKey with state := .expired, pinned := true } }
    (s.asks (requestFrame 19 0 []) ∧ s.ctl.state = .armed ∧ s.ctl.programme = some bill ∧ bill.entries[0]? = some trailer ∧
      trailer.sound ∧ (∀ k ∈ s.ctl.pins, s.validKey k) ∧ s.acct.log.length < 48) ∧
    (t.asks (requestFrame 19 0 []) ∧ t.intake.pq = [] ∧ t.acct.log.length = 48 ∧ (∀ k ∈ t.ctl.pins, t.validKey k)) ∧
    (u.asks (requestFrame 19 0 []) ∧ firstAt u.ctl.pins (fun k => ¬u.validKey k) 0 9) := by
  intro s full old t u
  have pins (x : State) (hx : x.keys = armedHouse.keys) (hp : x.ctl.pins = [9]) : ∀ k ∈ x.ctl.pins, x.validKey k := by
    intro k hk
    obtain rfl : k = 9 := by simpa [hp] using hk
    exact ⟨_, by rw [hx]; exact armedHouse_find, rfl⟩
  have hu : u.keys.find 9 = some { featureKey with state := .expired, pinned := true } := by
    simp [u, tableOf, KeyTable.find, featureKey]
  refine ⟨⟨stands _ rfl rfl nofun rfl (by decide), rfl, rfl, rfl, ⟨by decide, by decide, by decide⟩, pins _ rfl rfl, by decide⟩,
    ⟨stands _ rfl rfl nofun rfl (by decide), rfl, by simp [t, full, readyToStart], pins _ rfl rfl⟩,
    stands _ rfl rfl nofun rfl (by decide), rfl, ?_, nofun⟩
  rintro ⟨k, hk, hv⟩
  rw [hu] at hk
  obtain rfl := Option.some.inj hk
  cases hv

/-- An ARMED show with a schedule. -/
def scheduled (n : Nat) (k : KeyRecord) : State :=
  { armedHouse with
    ctl := { armedHouse.ctl with schedule := some n }
    keys := tableOf { k with pinned := true } }

/-- ScheduledStart: a second at the clock and one past it; a start two seconds away, one due with its pin VALID, one with it SPENT; a CLOCK SET
one second before the schedule and at it. -/
theorem witness_scheduled_start :
    (armedHouse.asks (requestFrame 20 0 []) ∧ armedHouse.ctl.state = .armed) ∧
    (armedHouse.asks (requestFrame 20 0 (beBytes 4 1000200)) ∧ 1000200 ≤ armedHouse.pwr.clock) ∧
    (armedHouse.asks (requestFrame 20 0 (beBytes 4 1000201)) ∧ armedHouse.pwr.clock < 1000201) ∧
    (∀ k : KeyRecord, k = featureKey ∨ k = { featureKey with state := .spent } → ∀ n, n = 1000202 ∨ n = 1000201 →
      let s := scheduled n k
      s.ctl.state = .armed ∧ s.ctl.schedule = some n ∧ s.ctl.programme = some bill ∧ bill.entries[0]? = some trailer ∧
      s.pwr.clockSet = true ∧ s.pwr.wakeTime = none ∧ s.pwr.clock < 4294967295 ∧
      s.composed = true ∧ (∀ r, some r ∈ s.keys.places → stateAt (s.pwr.clock + 1) r = r.state) ∧
      ∀ v, v = 1000200 ∨ v = 1000201 → v < 2 ^ 32 ∧ s.asks (requestFrame 8 0 (beBytes 4 v)) ∧
        ∀ r, some r ∈ s.keys.places → stateAt v r = r.state) ∧
    (scheduled 1000201 featureKey).validKey 9 ∧ ¬(scheduled 1000201 { featureKey with state := .spent }).validKey 9 := by
  refine ⟨⟨stands _ rfl rfl nofun rfl (by decide), rfl⟩, ⟨stands _ rfl rfl nofun rfl (by decide), by decide⟩,
    ⟨stands _ rfl rfl nofun rfl (by decide), by decide⟩, ?_, ⟨{ featureKey with pinned := true }, ?_, rfl⟩, ?_⟩
  · intro k hk n _ s
    refine ⟨rfl, rfl, rfl, rfl, rfl, rfl, by show 1000200 < 4294967295; decide, rfl, ?_, ?_⟩
    · intro r hr
      rcases hk with rfl | rfl <;> (simp [s, scheduled, tableOf] at hr; subst hr; rfl)
    · intro v hv
      refine ⟨by omega, stands _ rfl rfl nofun rfl (by show 4 ≤ 1024; decide), ?_⟩
      intro r hr
      rcases hk with rfl | rfl <;> rcases hv with rfl | rfl <;> (simp [s, scheduled, tableOf] at hr; subst hr; rfl)
  · simp [scheduled, tableOf, KeyTable.find, featureKey]
  · rintro ⟨k, hk, hv⟩
    have h : (scheduled 1000201 { featureKey with state := .spent }).keys.find 9 =
        some { featureKey with state := .spent, pinned := true } := by
      simp [scheduled, tableOf, KeyTable.find, featureKey]
    rw [h] at hk
    obtain rfl := Option.some.inj hk
    cases hv

/-- StopFadeCompletionEndsTheShowing: one step before the fade's end, and at it, in the showing of section 9.6. -/
theorem witness_stop_fade :
    (∀ n, n = 1919 ∨ n = 1920 → (stoppingAt n).ctl.state = .stopping ∧ (stoppingAt n).composed = true ∧
      (stoppingAt n).snd.pause.ramp = some { start := 16384, target := 0, length := 1920, step := n }) ∧
    (stoppingAt 1920).acct.log = [] ++ [openRecord] ∧ openRecord.outcome = none ∧
    (∃ es x, openRecord.entries = es ++ [x]) ∧
    (∀ n, let before := List.replicate n { openRecord with outcome := some .complete, collected := false }
      let s := { stoppingAt 1920 with acct := { (stoppingAt 1920).acct with log := before ++ [openRecord] } }
      s.composed = true ∧ s.ctl.state = .stopping ∧ before.length = n ∧ ∀ y ∈ before ++ [openRecord], y.collected = false) := by
  refine ⟨fun _ _ => ⟨rfl, rfl, rfl⟩, rfl, rfl, ⟨openRecord.entries.take 1, _, rfl⟩, ?_⟩
  intro n before s
  refine ⟨rfl, rfl, List.length_replicate, ?_⟩
  intro y hy
  rcases List.mem_append.mp hy with h | h
  · rw [List.eq_of_mem_replicate h]
  · rw [List.mem_singleton.mp h]; rfl

/-- ArmTimeoutAndPauseLimit: timers at 0 and at 1 millisecond, each in its show state. -/
theorem witness_timeouts :
    (∀ n, n = 0 ∨ n = 1 → let s := { house .arming with ctl := { (house .arming).ctl with armTimer := some n } }
      s.composed = true ∧ s.ctl.state = .arming ∧ s.ctl.armTimer = some n) ∧
    (∀ n, n = 0 ∨ n = 1 → let s := { playingAt 99 0 with ctl := { (playingAt 99 0).ctl with state := .paused, pauseTimer := some n } }
      s.composed = true ∧ s.ctl.state = .paused ∧ s.ctl.pauseTimer = some n) :=
  ⟨fun _ _ => ⟨rfl, rfl, rfl⟩, fun _ _ => ⟨rfl, rfl, rfl⟩⟩

/-! #### The Key Table and the showing log -/

theorem featureKey_admissible (n : Nat) (h : 1 ≤ n ∧ n ≤ 65535) : ({ featureKey with allowance := some n }).admissible := by
  refine ⟨rfl, by show 1000000 ≤ 1086400; decide, by show 1086400 < 2 ^ 32; decide, ?_⟩
  intro m hm
  obtain rfl := Option.some.inj hm
  exact h

/-- KeyPutStoresTheRecordSent: 75 and 77 bytes, each field just out of range, allowances 1 and 65,535, a duplicate, a full table, and the
second place the lowest free one. -/
theorem witness_key_put :
    (State.reset.asks (requestFrame 32 0 (List.replicate 75 0)) ∧ State.reset.asks (requestFrame 32 0 (List.replicate 77 0))) ∧
    (let p : List Byte := List.replicate 76 0
     p.length = 76 ∧ field p 32 1 = 0 ∧ State.reset.asks (requestFrame 32 0 p)) ∧
    field (keyPutPayload { featureKey with windowStart := 5, windowEnd := 4 }) 69 4 <
      field (keyPutPayload { featureKey with windowStart := 5, windowEnd := 4 }) 65 4 ∧
    ({ featureKey with allowance := some 1 }).admissible ∧ ({ featureKey with allowance := some 65535 }).admissible ∧
    (let s := house .loaded
     s.asks (requestFrame 32 0 (keyPutPayload featureKey)) ∧
     firstAt s.keys.places (fun x => ∃ r, x = some r ∧ r.id = featureKey.id) 0 (some featureKey) ∧
     (∀ r, some r ∈ s.keys.places → r.id ≠ 10) ∧ firstAt s.keys.places (fun x => x = none) 1 none) ∧
    (let s := { State.reset with keys := { KeyTable.reset with places := List.replicate 32 (some featureKey) } }
     s.asks (requestFrame 32 0 (keyPutPayload { featureKey with id := 10 })) ∧ (∀ x ∈ s.keys.places, x ≠ none) ∧
     ∀ r, some r ∈ s.keys.places → r.id ≠ 10) := by
  refine ⟨⟨reset_asks (by decide), reset_asks (by decide)⟩, ⟨by decide, by decide, reset_asks (by decide)⟩, by decide +kernel,
    featureKey_admissible 1 (by decide), featureKey_admissible 65535 (by decide),
    ⟨house_asks _ (by decide), ⟨rfl, ⟨_, rfl, rfl⟩, nofun⟩, ?_, rfl, rfl, ?_⟩, stands _ rfl rfl nofun rfl (by decide), ?_, ?_⟩
  · intro r hr
    simp [house, tableOf] at hr
    subst hr
    simp [featureKey]
  · intro j hj x hx
    obtain rfl : j = 0 := by omega
    obtain rfl : some featureKey = x := Option.some.inj hx
    nofun
  · intro x hx
    obtain rfl := List.eq_of_mem_replicate hx
    nofun
  · intro r hr
    obtain rfl := Option.some.inj (List.eq_of_mem_replicate hr)
    simp [featureKey]

/-- KeyRemoveFreesThePlace, KeyRevokeIsFinal, KeyGetReportsTheRecord: an unknown id, and a key that is pinned and one that is not. -/
theorem witness_key_requests :
    (∀ kind : Byte, State.reset.asks (requestFrame kind 0 (idBytes 9))) ∧ (∀ k, some k ∈ State.reset.keys.places → k.id ≠ 9) ∧
    (∀ kind : Byte, (house .loaded).asks (requestFrame kind 0 (idBytes 9))) ∧
    firstAt (house .loaded).keys.places (fun x => ∃ r, x = some r ∧ r.id = 9) 0 (some featureKey) ∧ featureKey.pinned = false ∧
    armedHouse.asks (requestFrame 33 0 (idBytes 9)) ∧
    firstAt armedHouse.keys.places (fun x => ∃ r, x = some r ∧ r.id = 9) 0 (some { featureKey with pinned := true }) ∧
    (∀ st, st = .revoked ∨ st = .spent ∨ st = .expired →
      let s : State := { State.reset with keys := tableOf { featureKey with state := st } }
      (∀ tag p, Instr.boothClockSecond ≠ .keyRemove tag p) ∧ Instr.boothClockSecond ≠ .powerOn ∧
      (∃ t, exec .boothClockSecond s = .next t) ∧ s.keys.places[0]? = some (some { featureKey with state := st })) := by
  refine ⟨fun _ => reset_asks (by decide), ?_, fun _ => house_asks _ (by decide), ⟨rfl, ⟨_, rfl, rfl⟩, nofun⟩, rfl,
    stands _ rfl rfl nofun rfl (by decide), ⟨rfl, ⟨_, rfl, rfl⟩, nofun⟩, fun _ _ => ⟨nofun, nofun, ⟨_, rfl⟩, rfl⟩⟩
  intro k hk
  have := List.eq_of_mem_replicate hk
  cases this

/-- PagedReadsChangeNothing: first indexes 31 and 32, both lists at 63 and 64, the open record, an unknown one, and pages 0 to 2 of it. -/
theorem witness_paged_reads :
    (State.reset.asks (requestFrame 36 0 [31]) ∧ (31 : Byte).toNat < 32 ∧ State.reset.keys.places.length = 32) ∧
    (State.reset.asks (requestFrame 36 0 [32]) ∧ 32 ≤ (32 : Byte).toNat) ∧
    (State.reset.asks (requestFrame 27 0 [1, 63]) ∧ State.reset.asks (requestFrame 27 0 [2, 0]) ∧
      State.reset.asks (requestFrame 27 0 [0, 64])) ∧
    (let s := playingAt 99 0
     (∀ first : Byte, s.asks (requestFrame 72 0 (0 :: (beBytes 4 49 ++ [first])))) ∧
     firstAt s.acct.log (fun r => r.number = 49) 0 openRecord ∧ (1 : Byte).toNat < openRecord.entries.length ∧
     openRecord.entries.length ≤ (2 : Byte).toNat ∧
     s.asks (requestFrame 72 0 (1 :: (beBytes 4 0 ++ [0]))) ∧ firstAt s.acct.log (fun r => r.collected = false) 0 openRecord ∧
     s.asks (requestFrame 72 0 (1 :: (beBytes 4 1 ++ [0])))) ∧
    (State.reset.asks (requestFrame 72 0 (2 :: (beBytes 4 0 ++ [0]))) ∧ State.reset.asks (requestFrame 72 0 (0 :: (beBytes 4 1 ++ [0]))) ∧
      State.reset.acct.log = []) :=
  ⟨⟨reset_asks (by decide), by decide, by decide⟩, ⟨reset_asks (by decide), by decide⟩,
    ⟨reset_asks (by decide), reset_asks (by decide), reset_asks (by decide)⟩,
    ⟨fun _ => stands _ rfl rfl nofun rfl (by show 6 ≤ 1024; decide), ⟨rfl, rfl, nofun⟩, by decide, by decide,
      stands _ rfl rfl nofun rfl (by decide), ⟨rfl, rfl, nofun⟩, stands _ rfl rfl nofun rfl (by decide)⟩,
    reset_asks (by decide), reset_asks (by decide), rfl⟩

/-- LogCollectAndLogStatus: the number of the open record, and one that the log does not hold. -/
theorem witness_log_collect :
    let s := playingAt 99 0
    (s.asks (requestFrame 73 0 (beBytes 4 49)) ∧ s.acct.log = [] ++ openRecord :: [] ∧ openRecord.number = 49) ∧
    (s.asks (requestFrame 73 0 (beBytes 4 4294967295)) ∧ ∀ r ∈ s.acct.log, r.number ≠ 4294967295) ∧
    s.asks (requestFrame 74 0 []) := by
  refine ⟨⟨stands _ rfl rfl nofun rfl (by decide), rfl, rfl⟩, ⟨stands _ rfl rfl nofun rfl (by decide), ?_⟩,
    stands _ rfl rfl nofun rfl (by decide)⟩
  intro r hr
  obtain rfl : r = openRecord := by simpa [playingAt] using hr
  decide

/-! #### Cues, sound, meter, subtitles -/

/-- A Cue Unit in a show state. -/
def withCue (st : ShowState) (x : CueUnit) : State := { house st with cue := x }

theorem withCue_asks (st : ShowState) (x : CueUnit) {kind tag : Byte} {p : List Byte} (h : p.length ≤ 1024) :
    (withCue st x).asks (requestFrame kind tag p) := stands _ rfl rfl (by simp [withCue, house, noon, Power.reset]) rfl h

/-- CueEditsReachTheLists: a WRITE whose line mode fits and one whose does not, a payload of 15 and of 17 bytes, DELETE of 63 held, not
held, and of 64, in and out of a show. -/
theorem witness_cue_edits (st : ShowState) :
    let x := { pulsing with live := [pulseCue], waiting := [pulseCue] }
    (pulseCue.inRange ∧ (withCue st x).asks (requestFrame 26 0 (1 :: pulseCue.edit)) ∧ x.fits pulseCue.action = true) ∧
    (State.reset.asks (requestFrame 26 0 (1 :: pulseCue.edit)) ∧ State.reset.cue.fits pulseCue.action = false) ∧
    (State.reset.asks (requestFrame 26 0 (1 :: List.replicate 15 0)) ∧ State.reset.asks (requestFrame 26 0 (1 :: List.replicate 17 0))) ∧
    ((withCue st x).asks (requestFrame 26 0 [2, 63]) ∧ (∃ c ∈ x.live, c.number = 63) ∧ ∃ c ∈ x.waiting, c.number = 63) ∧
    (State.reset.asks (requestFrame 26 0 [2, 63]) ∧ State.reset.cue.live = [] ∧ State.reset.cue.waiting = []) ∧
    State.reset.asks (requestFrame 26 0 [2, 64]) :=
  ⟨⟨pulseCue_inRange.1, withCue_asks _ _ (by decide), by decide⟩, ⟨reset_asks (by decide), by decide⟩,
    ⟨reset_asks (by decide), reset_asks (by decide)⟩,
    ⟨withCue_asks _ _ (by decide), ⟨_, List.mem_cons_self, rfl⟩, _, List.mem_cons_self, rfl⟩, ⟨reset_asks (by decide), rfl, rfl⟩,
    reset_asks (by decide)⟩

/-- The payload of a MAP SET. -/
def mapOf (rs : List Route) : List Byte :=
  beBytes 1 rs.length ++ rs.flatMap fun r => beBytes 1 r.source ++ beBytes 1 r.output ++ beBytes 2 r.gain

/-- A route of a list names the source and output of an earlier one. -/
def repeats (rs : List Route) (i : Nat) : Prop :=
  ∃ j r q, j < i ∧ rs[i]? = some r ∧ rs[j]? = some q ∧ r.source = q.source ∧ r.output = q.output

/-- MapSetReplacesTheMap: no route and 48 of them in every show state, 49, a route out of range after one that is not, one again. -/
theorem witness_map_set (st : ShowState) :
    ((house st).asks (requestFrame 40 0 (mapOf [])) ∧ (house st).asks (requestFrame 40 0 (mapOf [⟨17, 17, 65535⟩])) ∧
      ∀ i, ¬repeats [⟨17, 17, 65535⟩] i) ∧
    State.reset.asks (requestFrame 40 0 (mapOf (List.replicate 49 ⟨0, 0, 0⟩))) ∧
    (State.reset.asks (requestFrame 40 0 (mapOf [⟨17, 17, 0⟩, ⟨18, 0, 0⟩])) ∧
      firstAt ([⟨17, 17, 0⟩, ⟨18, 0, 0⟩] : List Route) (fun r => 17 < r.source ∨ 17 < r.output) 1 ⟨18, 0, 0⟩) ∧
    (State.reset.asks (requestFrame 40 0 (mapOf [⟨0, 0, 0⟩, ⟨0, 0, 1⟩])) ∧
      repeats [⟨0, 0, 0⟩, ⟨0, 0, 1⟩] 1) ∧
    (State.reset.asks (requestFrame 40 0 [1, 0, 0, 0]) ∧ ([0, 0, 0] : List Byte).length ≠ 4 * (1 : Byte).toNat) := by
  refine ⟨⟨house_asks _ (by decide), house_asks _ (by decide), ?_⟩, reset_asks (by decide +kernel), ⟨reset_asks (by decide), rfl, by decide, ?_⟩,
    ⟨reset_asks (by decide), 0, _, _, by decide, rfl, rfl, rfl, rfl⟩, reset_asks (by decide), by decide⟩
  · rintro i ⟨j, r, q, hj, hr, -⟩
    have : i < 1 := by simpa using (List.getElem?_eq_some_iff.mp hr).1
    omega
  · intro j hj x hx
    obtain rfl : j = 0 := by omega
    obtain rfl := Option.some.inj hx
    decide

/-- A Sound Engine whose output 17 has this fader, switch gain and phase. -/
def output17 (y : Output) : State :=
  { playingAt 99 0 with snd := { Sound.reset with outputs := Sound.reset.outputs.set 17 y, pause := y.fader } }

/-- FadesFollowTheFormula: READY, no output, all outputs over 60,000 and 60,001 ms; a host fade and a pause fade at their last step and
one step before it; steps 1, N - 1 and N of a fade of two samples, and a fade of none. -/
theorem witness_fades :
    let fade (set : BitVec 18) (ms : Nat) : List Byte := beBytes 3 set.toNat ++ beBytes 2 65535 ++ beBytes 2 ms
    let off : State := { State.reset with pwr := { Power.reset with state := .ready } }
    (off.asks (requestFrame 41 0 (fade 1 0)) ∧ off.pwr.state = .ready) ∧
    (State.reset.asks (requestFrame 41 0 (fade 0 0)) ∧ State.reset.pwr.state = .active) ∧
    (State.reset.asks (requestFrame 41 0 (fade (BitVec.allOnes 18) 60000)) ∧
      State.reset.asks (requestFrame 41 0 (fade (BitVec.allOnes 18) 60001)) ∧ BitVec.allOnes 18 ≠ 0#18) ∧
    (∀ k, k = 1 ∨ k = 2 →
      let r : Ramp := { start := 0, target := 16384, length := 2, step := k }
      let s := output17 { Output.reset with fader := { cur := 0, target := 16384, ramp := some r } }
      s.snd.outputs[(17 : Fin 18).val]? = some { Output.reset with fader := { cur := 0, target := 16384, ramp := some r } } ∧
      s.snd.pause.ramp = some r) ∧
    1 ≤ 1 ∧ 1 < 2 ∧ 0 ≤ 1 :=
  ⟨⟨stands _ rfl rfl nofun rfl (by decide), rfl⟩, ⟨reset_asks (by decide), rfl⟩,
    ⟨reset_asks (by decide), reset_asks (by decide), by decide⟩, fun _ _ => ⟨rfl, rfl⟩, by decide, by decide, by decide⟩

/-- DelaySetAndSwitchPhases: 250,001, a trim of 20,001 for output 17, and the ends of the ranges at which output 17 alone is clamped; a
ramp down and one up at their last step. -/
theorem witness_delay_set :
    let trims : List Nat := List.replicate 17 0 ++ [20000]
    let set (g : Nat) (l : List Nat) : List Byte := beBytes 4 g ++ l.flatMap (beBytes 2)
    let s := playingAt 99 0
    s.asks (requestFrame 42 0 (set 250001 trims)) ∧
    (s.asks (requestFrame 42 0 (set 250000 (List.replicate 17 0 ++ [20001]))) ∧
      firstAt (List.replicate 17 0 ++ [20001]) (fun t => 20000 < t) 17 20001) ∧
    (s.asks (requestFrame 42 0 (set 250000 trims)) ∧ trims.length = 18 ∧ s.snd.outputs.length = 18 ∧ s.caps.sound = none ∧
      (∀ t ∈ trims, t ≤ 20000) ∧
      firstAt (List.range 18) (fun o => 24000 < ((250000 + (trims[o]?).getD 0) * s.tl.rate.hz + 500000) / 1000000) 17 17) ∧
    ∀ ph, ph = SwitchPhase.down ∨ ph = SwitchPhase.up →
      let r : Ramp := { start := 16384, target := 0, length := 480, step := 480 }
      let y : Output := { Output.reset with phase := ph, switch := { cur := 0, target := 0, ramp := some r } }
      (output17 y).snd.outputs[(17 : Fin 18).val]? = some y ∧ y.switch.ramp = some r ∧ y.phase = ph := by
  have below (P : Nat → Nat → Prop) (l : List Nat) (x : Nat) (hl : l = List.replicate 17 0 ++ [x]) (h : ∀ j, j < 17 → ¬P j 0) :
      ∀ j, j < 17 → ∀ y, l[j]? = some y → ¬P j y := by
    intro j hj y hy
    subst hl
    rw [List.getElem?_append_left (by simpa using hj), List.getElem?_replicate] at hy
    simp [hj] at hy
    subst hy
    exact h j hj
  refine ⟨stands _ rfl rfl nofun rfl (by decide), ⟨stands _ rfl rfl nofun rfl (by decide), rfl, by decide, ?_⟩,
    ⟨stands _ rfl rfl nofun rfl (by decide), by decide, by decide, rfl, by decide, rfl, by decide, ?_⟩, fun _ _ => ⟨rfl, rfl, rfl⟩⟩
  · exact below (fun _ t => 20000 < t) _ 20001 rfl (by decide)
  · intro j hj x hx
    obtain rfl : j = x := by
      rw [List.getElem?_range (by omega)] at hx
      exact Option.some.inj hx
    interval_cases j <;> decide

/-- QueriesChangeNothing: every query after a power-on, and the two refusals where the units are off. -/
theorem witness_queries :
    let off : State := { State.reset with pwr := { Power.reset with state := .ready }, meter := { Meter.reset with state := .off } }
    (∀ kind : Byte, State.reset.asks (requestFrame kind 0 []) ∧ off.asks (requestFrame kind 0 [])) ∧
    State.reset.meter.state ≠ .off ∧ off.meter.state = .off ∧ State.reset.pwr.state = .active ∧ off.pwr.state ≠ .active :=
  ⟨fun _ => ⟨reset_asks (by decide), stands _ rfl rfl nofun rfl (by decide)⟩, by decide, rfl, rfl, by decide⟩

/-- A part whose meter is in a state. -/
def metering (x : Meter) : State := { State.reset with meter := x }

/-- MeterRequests: each meter state, the ends of the window range and one beyond each, a CYCLE group that ends at output 17 and one past
it, a bad mode, and the ends of the silence settings. -/
theorem witness_meter_requests :
    (∀ st kind, ∀ p : List Byte, p.length ≤ 1024 → (metering { Meter.reset with state := st }).asks (requestFrame kind 0 p)) ∧
    (0x31 : Byte) = meterByte .cycle .output ∧ (∀ m q, (0x40 : Byte) ≠ meterByte m q) ∧
    (¬(17 < 2 ∨ 10 < 10 ∨ 1000 < 10) ∧ (16 = 16 ∧ 2 + 16 ≤ 18)) ∧ 17 < 18 ∧ 9 < 10 ∧ 1000 < 1001 ∧ ¬(3 + 16 ≤ 18) ∧
    2 ^ 18 < 2 ^ 24 ∧ 8388609 < 2 ^ 24 ∧ 2 ^ 18 - 1 < 2 ^ 18 := by
  refine ⟨fun st kind p h => stands _ rfl rfl nofun rfl h, by decide, ?_, by decide, by decide, by decide, by decide, by decide,
    by decide, by decide, by decide⟩
  intro m q
  cases m <;> cases q <;> decide

/-- MeterWindowsAndSilenceWatch: one sample before a window's end and at it; SINGLE, the seventh and eighth windows of WATCH, and the last
but one and last of SWEEP and CYCLE, whose silence watch raises outputs 0 and 1 and meets an open record, or watches none. -/
theorem witness_meter_windows :
    let m (mode : MeterMode) (channel windows left : Nat) : Meter :=
      { Meter.reset with mode := mode, group := 2, state := .measuring, trigger := some .request, length := 480, channel := channel,
                         left := left, windows := windows, pass := 1, watched := BitVec.allOnes 18, threshold := 1, passCount := 1 }
    let s (x : Meter) : State := { playingAt 99 0 with meter := x }
    (∀ x, (s x).composed = true) ∧ (m .single 0 0 1).left ≠ 0 ∧
    ((m .single 0 0 0).state = .measuring ∧ (m .single 0 0 0).left = 0 ∧ (m .single 0 0 0).trigger = some .request ∧
      (m .single 0 0 0).channel = (m .single 0 0 0).base ∧ 0 < (m .single 0 0 0).results.length) ∧
    ((6 + 1) % 8 ≠ 0 ∧ (7 + 1) % 8 = 0) ∧
    (∀ mode, (m mode 0 0 0).channel + 1 < (m mode 0 0 0).base + (m mode 0 0 0).group ∧
      (m mode 1 1 0).channel + 1 = (m mode 1 1 0).base + (m mode 1 1 0).group ∧ (m mode 1 1 0).quiet.length = 18) ∧
    ((m .cycle 1 1 0).point = .output ∧ (s (m .cycle 1 1 0)).ctl.state = .running ∧ (m .cycle 1 1 0).watched.getLsbD 1 = true ∧
      (m .cycle 1 1 0).peak < (m .cycle 1 1 0).threshold ∧ (s (m .cycle 1 1 0)).acct.log = [] ++ [openRecord] ∧
      openRecord.outcome = none ∧ (openRecord.entries.take 1).length = (s (m .cycle 1 1 0)).tl.entry ∧
      min (m .cycle 1 1 0).passCount (0 + 1) = (m .cycle 1 1 0).passCount) ∧
    ((∀ o ∈ [0, 1], (m .cycle 1 1 0).alarms.getLsbD o = false ∧ (m .cycle 1 1 0).passCount ≤ (((m .cycle 1 1 0).quiet[o]?).getD 0) + 1 ∧
        (((m .cycle 1 1 0).results[o]?).map MeterResult.peak).getD 0 < (m .cycle 1 1 0).threshold) ∧
      ∀ o, o < 18 → ({ m .cycle 1 1 0 with watched := 0 }).watched.getLsbD o = false) :=
  ⟨fun _ => rfl, by decide, ⟨rfl, rfl, rfl, rfl, by decide⟩, by decide, fun _ => ⟨by show 0 + 1 < 0 + 2; decide, rfl, rfl⟩, ⟨rfl, rfl, by decide, by decide,
    rfl, rfl, rfl, rfl⟩, by decide, by decide⟩

/-- SubtitleSetChangesTheEnable: leads 8 and 9, READY, and an enable kept, cleared (in ARMING too) and set, with an event due at the lead and
one not. -/
theorem witness_subtitle_set :
    let off : State := { State.reset with pwr := { Power.reset with state := .ready } }
    let event (n : Nat) : SubtitleEvent :=
      { number := n, inFrame := n, outFrame := 200, fadeIn := 0, fadeOut := 0, region := 0, style := 0, text := [65], sent := false }
    let track : SubtitleTrack :=
      { SubtitleTrack.reset 4 with
        enabled := false, current := some { entry := 1, reel := 0, lost := false, events := [event 107, event 108], defects := 0 } }
    let s : State := { playingAt 99 0 with subs := { Subtitles.reset with main := track } }
    (off.asks (requestFrame 50 0 [0, 1, 0]) ∧ off.pwr.state ≠ .active) ∧ State.reset.asks (requestFrame 50 0 [1, 0, 9]) ∧
    (State.reset.asks (requestFrame 50 0 [1, 0, 8]) ∧ State.reset.subs.assist.enabled = true) ∧
    ((house .arming).asks (requestFrame 50 0 [1, 0, 8]) ∧ (house .arming).subs.assist.enabled = true ∧ (house .arming).ctl.state = .arming) ∧
    State.reset.asks (requestFrame 50 0 [0, 1, 0]) ∧
    (s.asks (requestFrame 50 0 [0, 1, 8]) ∧ s.subs.main.enabled = false ∧ s.ctl.state = .running ∧ 107 - 8 ≤ s.tl.frame ∧
      ¬(108 - 8 ≤ s.tl.frame)) :=
  ⟨⟨stands _ rfl rfl nofun rfl (by decide), nofun⟩, reset_asks (by decide), ⟨reset_asks (by decide), rfl⟩,
    ⟨house_asks _ (by decide), rfl, rfl⟩, reset_asks (by decide), stands _ rfl rfl nofun rfl (by decide), rfl, rfl, by decide, by decide⟩

/-! #### Lines, pairs, inputs -/

/-- LineRequestsAndPulses: line 7 LEVEL, line 1 PULSE, line 2 PAIR; widths 9, 10, 10,000 and 10,001; a timer at 0 and at 1; a show RUNNING
and LOADED; line 8 and operation 0. -/
theorem witness_lines :
    let x (n : Nat) : CueUnit := { curtain .off none with lines := (curtain .off none).lines.set 1 { CueLine.reset with mode := .pulse, pulse := some n } }
    (∀ st n, ∀ kind : Byte, ∀ p : List Byte, p.length ≤ 1024 → (withCue st (x n)).asks (requestFrame kind 0 p)) ∧
    (∀ n, (x n).lines[7]? = some CueLine.reset ∧ (x n).lines[1]? = some { CueLine.reset with mode := .pulse, pulse := some n } ∧
      (x n).lines[2]?.map CueLine.mode = some .pair ∧ (x n).pairOf (7 / 2) = Pair.reset ∧ ((x n).pairOf (2 / 2)).enabled = true) ∧
    9 < 10 ∧ 10000 < 10001 ∧ 10001 < 65536 ∧ 8 ≤ (8 : Byte).toNat ∧ (7 : Fin 8).val = (7 : Byte).toNat :=
  ⟨fun st n _ _ h => withCue_asks st _ h, fun _ => ⟨rfl, rfl, rfl, rfl, rfl⟩, by decide, by decide, by decide, by decide, by decide⟩

/-- A curtain pair in any state its table allows keeps the invariant of the lines. -/
theorem curtain_kept (st : PairState) (t : Option Nat) (h : (st = .aOn ∨ st = .bOn → t = none) ∧ (st = .deadA ∨ st = .deadB → t.isSome)) :
    (withCue .loaded (curtain st t)).linesKept := by
  refine ⟨rfl, rfl, ?_, ?_, nofun, nofun, nofun⟩
  · intro _ l hl
    cases st <;> simp [withCue, curtain, CueUnit.reset, CueLine.reset, List.replicate] at hl <;> aesop
  · intro k hk
    interval_cases k <;> cases st <;> simp_all [CueUnit.pairKept, withCue, curtain, CueUnit.pairOf, CueUnit.modeOf, CueUnit.levelOf, CueUnit.pinOf,
      CueUnit.reset, CueLine.reset, Pair.reset, List.replicate]

/-- PairRequestsAndDeadTimes: the pair of section 8.9 in each state, settled and with its timer at 0; a disabled pair; dead times 5,000 and
5,001; a hold under which both pins are active. -/
theorem witness_pairs :
    (∀ st t, (st = .aOn ∨ st = .bOn → t = none) ∧ (st = .deadA ∨ st = .deadB → t.isSome) →
      let s := withCue .loaded (curtain st t)
      s.linesKept ∧ (1 : Byte).toNat < 4 ∧ s.cue.pairs[(1 : Byte).toNat]? = some { enabled := true, deadTime := 1500, state := st, timer := t } ∧
      s.cue.pairs[0]? = some Pair.reset ∧ (s.cue.lines[2]?).isSome ∧ (s.cue.lines[3]?).isSome ∧
      ∀ kind : Byte, ∀ p : List Byte, p.length ≤ 1024 → s.asks (requestFrame kind 0 p)) ∧
    5000 < 5001 ∧ 5001 < 65536 ∧
    (let held : CueLine := { CueLine.reset with pin := true, latched := true }
     let x : CueUnit := { CueUnit.reset with hold := true, lines := List.replicate 8 held }
     x.lines[0]? = some held ∧ x.lines[1]? = some held ∧ (x.hold && held.pin && held.pin) = true ∧ (withCue .loaded x).linesKept) := by
  refine ⟨fun st t h => ⟨curtain_kept st t h, by decide, rfl, rfl, by cases st <;> rfl, by cases st <;> rfl,
    fun _ _ h => withCue_asks _ _ h⟩, by decide, by decide, rfl, rfl, rfl, rfl, rfl, nofun, ?_, nofun, nofun, nofun⟩
  intro k hk
  interval_cases k <;> unfold CueUnit.pairKept <;> decide

/-- InputsPatternAndHold: input 7 and 8, actions 7 and 8, edges 0, 3 and 4, a capture record empty and filled, the hold clear and, with a
pair enabled under it and line A held active, set. -/
theorem witness_inputs :
    let filled : CaptureRecord := { edge := .rise, place := some (1, 99), clock := 1000200, fresh := true, count := 255 }
    let x : CueUnit := { CueUnit.reset with captures := CueUnit.reset.captures.set 7 (some filled) }
    let h : CueUnit :=
      { curtain .bOn none with
        hold := true
        lines := ((curtain .bOn none).lines.set 2 { CueLine.reset with mode := .pair, pin := true, latched := true }).set 3
          { CueLine.reset with mode := .pair, level := true } }
    (∀ st, ∀ kind : Byte, ∀ p : List Byte, p.length ≤ 1024 → (withCue st x).asks (requestFrame kind 0 p)) ∧
    (7 < (8 : Byte).toNat ∧ 3 < (4 : Byte).toNat ∧ (3 : Byte) = Edge.both.code ∧ (7 : Byte) = InputAction.meter.code ∧
      x.inputs[(7 : Byte).toNat]? = some BoothInput.reset) ∧
    (x.captures[(7 : Byte).toNat]? = some (some filled) ∧ x.captures[(0 : Byte).toNat]? = some none) ∧ x.hold = false ∧
    ((withCue .loaded h).asks (requestFrame 64 0 []) ∧ h.hold = true ∧ (withCue .loaded h).linesKept ∧
      h.pairs[1]? = some { enabled := true, deadTime := 1500, state := .bOn, timer := none } ∧ h.pinOf (2 * 1) = true) := by
  refine ⟨fun _ _ _ h => withCue_asks _ _ h, ⟨by decide, by decide, rfl, rfl, rfl⟩, ⟨rfl, rfl⟩, rfl, withCue_asks _ _ (by decide), rfl,
    ⟨rfl, rfl, nofun, ?_, nofun, nofun, nofun⟩, rfl, rfl⟩
  intro k hk
  interval_cases k <;> unfold CueUnit.pairKept <;> decide

/-- MillisecondBoundaryCountsAndFilters: a boundary one sample early and on time, READY and NIGHT, and a third high sample of a CAPTURE
input whose accepted level is LOW. -/
theorem witness_millisecond :
    let x : BoothInput := { edge := .rise, action := .capture, accepted := some false, run := 2, last := some true }
    let s (n : Nat) : State := { State.reset with cue := { CueUnit.reset with msTaken := n, inputs := CueUnit.reset.inputs.set 7 x } }
    ((s 47).composed = true ∧ (s 47).pwr.state = .active ∧ (s 47).cue.msTaken < (s 47).cue.msLength) ∧
    ((s 48).pwr.state = .active ∧ (s 48).cue.msLength ≤ (s 48).cue.msTaken ∧ (s 48).timersRunOn) ∧
    (∀ y ∈ State.reset.cue.inputs, y.action = .none) ∧
    ((s 48).cue.inputs[7]? = some x ∧ 7 < (s 48).cue.captures.length ∧ (0x80#8).getLsbD 7 = true ∧
      ∀ j y, j ≠ 7 → (s 48).cue.inputs[j]? = some y → y.action = .none) := by
  refine ⟨by decide, ⟨rfl, by decide, ?_⟩, by decide, rfl, by decide, by decide, ?_⟩
  · refine ⟨by decide, by decide, nofun, nofun, ?_⟩
    intro r hr
    have := List.eq_of_mem_replicate hr
    cases this
  · intro j y hj hy
    simp only [CueUnit.reset, List.getElem?_set] at hy
    rw [if_neg (Ne.symm hj)] at hy
    have h := List.mem_of_getElem? hy
    obtain rfl := List.eq_of_mem_replicate h
    rfl

/-- InputActionsAndExpiries: input 7 with each action and a third high sample, in every show state and in READY, and a pulse with 0 and with 1
millisecond left. -/
theorem witness_input_actions :
    (∀ (st : ShowState) (a : InputAction) (pw : PowerState), pw ≠ .night →
      let x : BoothInput := { edge := .both, action := a, accepted := some false, run := 2, last := some true }
      let s : State := { house st with
        pwr := { noon with state := pw }, cue := { CueUnit.reset with msTaken := 48, inputs := CueUnit.reset.inputs.set 7 x } }
      s.composed = true ∧ s.cue.inputs.length = 8 ∧ (s.pwr.state = .ready ∨ (s.pwr.state = .active ∧ s.cue.msLength ≤ s.cue.msTaken)) ∧
      s.timersRunOn ∧ s.cue.inputs[7]? = some x ∧ x.accepted = some (!true) ∧ (0x80#8).getLsbD 7 = true ∧
      ∀ j y, j ≠ 7 → s.cue.inputs[j]? = some y → y.action = .none) ∧
    (let s (n : Nat) : State := { State.reset with
       cue := { pulsing with lines := pulsing.lines.set 1 { CueLine.reset with mode := .pulse, pulse := some n }, msTaken := 48 } }
     (∀ x ∈ (s 0).cue.inputs, x.action = .none) ∧ (∀ n, n = 0 ∨ n = 1 → (s n).othersRunOn (.pulseExpiry 1)) ∧
     (∃ m, exec (.pulseExpiry 1) (s 0) = .next m ∧ m.timersRunOn) ∧ (s 1).timersFrom 1 ∧
     ∃ m, exec (.pulseExpiry 1) ((s 1).ticked 0) = .next m ∧ m.timersFrom 1) ∧
    ((∃ k ∈ armedHouse.ctl.pins, k = 9) ∧ armedHouse.validKey 9) := by
  have free (k : Nat) : ∀ r, some r ∈ List.replicate 4 (none : Option StorageRequest) → k ≤ r.timer := by
    intro r hr
    have := List.eq_of_mem_replicate hr
    cases this
  have still : ∀ l ∈ pulsing.lines, l.pulse = none := by decide
  have others (n : Nat) : ∀ (i : Fin 8) l m, Instr.pulseExpiry 1 ≠ .pulseExpiry i →
      (pulsing.lines.set 1 { CueLine.reset with mode := .pulse, pulse := some n })[i.val]? = some l → l.pulse = some m → 2 ≤ m := by
    intro i l m hi hl hm
    have hne : 1 ≠ i.val := fun h => hi (congrArg Instr.pulseExpiry (Fin.ext h))
    rw [List.getElem?_set_ne hne] at hl
    rw [still l (List.mem_of_getElem? hl)] at hm
    cases hm
  refine ⟨?_, ⟨by decide, fun n _ => ⟨others n, ?_, nofun, nofun, ?_⟩, ⟨_, rfl, by decide, by decide, nofun, nofun, free 2⟩, ⟨by decide, by decide, nofun, nofun, free 1⟩,
    _, rfl, by decide, by decide, nofun, nofun, free 1⟩, ⟨9, by decide, rfl⟩, _, armedHouse_find, rfl⟩
  rotate_left
  · intro k p m _ hp hm
    have h : ∀ p ∈ pulsing.pairs, p.timer = none := by decide
    rw [h p (List.mem_of_getElem? hp)] at hm
    cases hm
  · intro i r _ hr
    exact free 2 r (List.mem_of_getElem? hr)
  intro st a pw hp x s
  have lines : ∀ l ∈ CueUnit.reset.lines, ∀ n, l.pulse = some n → 2 ≤ n := by decide
  have pairs : ∀ p ∈ CueUnit.reset.pairs, ∀ n, p.timer = some n → 2 ≤ n := by decide
  refine ⟨rfl, rfl, ?_, ⟨lines, pairs, nofun, nofun, free 2⟩, rfl, rfl, by decide, ?_⟩
  · cases pw
    · exact .inr ⟨rfl, by show 48 ≤ 48; decide⟩
    · exact .inl rfl
    · exact absurd rfl hp
  · intro j y hj hy
    simp only [s, CueUnit.reset, List.getElem?_set] at hy
    rw [if_neg (Ne.symm hj)] at hy
    obtain rfl := List.eq_of_mem_replicate (List.mem_of_getElem? hy)
    rfl

/-! #### Intake and the sample period -/

/-- The queue entry and request of picture 100 of the feature, after so many failures. -/
def waitingPicture (failures : Nat) : QueueEntry :=
  { pos := { entry := 1, reel := 0, unit := 100 }, status := .reserved, failures := failures, reread := false, slot := some 1 }

def pictureRequest : StorageRequest :=
  { seq := 700, owner := .queue .pq { entry := 1, reel := 0, unit := 100 }, trackId := 3, unit := 100, timer := 0 }

/-- A RUNNING show with a picture queue, slots and cursor. -/
def fetching (pq : List QueueEntry) (slots : List (Option StorageRequest)) (c : Option Pos) : State :=
  { playingAt 99 0 with intake := { Intake.reset with mode := .fetching, pq := pq, slots := slots, pqCursor := c } }

/-- A subtitle request of the trailer in slot 2, and the storage request that serves it. -/
def waitingTable : SubtitleRequest :=
  { track := .main, entry := 0, reel := 0, trackId := 9, status := .inFlight 2, failures := 0, reread := false }

def tableRequest : StorageRequest := { seq := 701, owner := .subtitle .main 0 0, trackId := 9, unit := 0, timer := 0 }

/-- StorageReplies: no slot with the number, codes 0, 3 and 4, two failures so far and three, a picture of the least and a size within the
greatest length, a unit one byte short, a sealed one under a key that is there and under one that is not; a queue entry and a subtitle
request as owners. -/
theorem witness_storage_replies (n : Nat) :
    let s0 := fetching [waitingPicture n] [none, some pictureRequest, some tableRequest, none] none
    let s : State := { s0 with intake := { s0.intake with requests := [waitingTable] }, keys := tableOf { featureKey with pinned := true } }
    (s.composed = true ∧ s.pwr.state = .active ∧ s.intake.ignoring = false) ∧
    (∀ r, some r ∈ s.intake.slots → r.seq ≠ 702) ∧ ((0x80 : Byte) ≠ 0x81 ∧ (0x80 : Byte) ≠ 0x82) ∧
    (s.intake.slots[1]? = some (some pictureRequest) ∧ pictureRequest.owner = .queue .pq (waitingPicture n).pos ∧
      (s.intake.queue .pq)[0]? = some (waitingPicture n) ∧ (∀ k f, (s.intake.queue .pq)[k]? = some f → f.pos = (waitingPicture n).pos → k = 0) ∧
      (1 : Fin 4).val = 1 ∧ pictureRequest.timer = 0) ∧
    (s.intake.slots[2]? = some (some tableRequest) ∧ s.intake.requests[0]? = some waitingTable ∧
      ∀ k y, s.intake.requests[k]? = some y → k = 0) ∧
    firstAt s.intake.slots (fun x => ∃ y, x = some y ∧ y.seq = pictureRequest.seq) 1 (some pictureRequest) ∧
    (s.entryAt pictureRequest.owner.entryOf = some feature ∧ pictureRequest.unit < 2 ^ 32 ∧ pictureRequest.owner.lengthFits feature 1 ∧
      pictureRequest.owner.lengthFits feature 2097152 ∧ tableRequest.owner.lengthFits trailer 262144) ∧
    ([0xE4, 0x16, 0x55] : List Byte).length < 14 ∧
    (s.refusal 9 feature.composition .picture = none ∧ s.keys.find 9 = some { featureKey with pinned := true } ∧
      s.refusal 10 feature.composition .picture = some 1) ∧
    2 < 3 ∧ 3 ≤ 3 ∧ (4 : Byte).toNat = 4 := by
  refine ⟨⟨rfl, rfl, rfl⟩, ?_, by decide, ⟨rfl, rfl, rfl, ?_, rfl, rfl⟩, ⟨rfl, rfl, ?_⟩, ⟨rfl, ⟨_, rfl, rfl⟩, ?_⟩,
    ⟨rfl, by decide, ⟨by decide, by decide⟩, ⟨by decide, by decide⟩, by decide, by decide⟩, by decide,
    ⟨rfl, rfl, rfl⟩, by decide, by decide, by decide⟩
  · intro r hr
    simp [fetching] at hr
    rcases hr with rfl | rfl <;> decide
  · intro k f hk _
    have : k < 1 := by simpa [fetching, Intake.queue] using (List.getElem?_eq_some_iff.mp hk).1
    omega
  · intro k y hk
    have : k < 1 := by simpa using (List.getElem?_eq_some_iff.mp hk).1
    omega
  · intro j hj x hx
    obtain rfl : j = 0 := by omega
    obtain rfl : none = x := Option.some.inj hx
    nofun

/-- SweepVisitIssuesOneRead: IDLE and four slots taken; no work anywhere; an entry awaiting re-issue in slot 1 as the free one, at its own
station and passed over at another; a request of the subtitle list; a read at unit 0 with a table to ask for, at the last unit but one and
at the last of the feature's first reel. -/
theorem witness_sweep_visit :
    let again : QueueEntry := { waitingPicture 1 with slot := none }
    let s := fetching [again] [some pictureRequest, none, none, none] none
    let at' (u : Nat) := fetching [] [none, none, none, none] (some { entry := 1, reel := 0, unit := u })
    let idle := fetching [] [none, none, none, none] none
    let asking : SubtitleRequest := { waitingTable with status := .awaiting }
    let listed : State := { idle with intake := { idle.intake with station := .subtitles, requests := [asking] } }
    State.reset.intake.mode = .idle ∧
    (∀ x ∈ (fetching [] (List.replicate 4 (some pictureRequest)) none).intake.slots, x ≠ none) ∧
    (∀ st, ¬idle.hasWork st) ∧
    (s.composed = true ∧ s.intake.mode = .fetching ∧ firstAt s.intake.slots (fun y => y = none) 1 none ∧ s.intake.station = .pq ∧
      firstAt (s.intake.queue .pq) QueueEntry.idle 0 again ∧ s.entryAt again.pos.entry = some feature ∧
      feature.reels[again.pos.reel]? = some (reelOf 86400 3) ∧
      ∀ k f, (s.intake.queue .pq)[k]? = some f → f.pos = again.pos → k = 0) ∧
    (s.hasWork .pq ∧ ¬({ s with intake := { s.intake with station := .sq0 } }).hasWork .sq0) ∧
    (firstAt listed.intake.requests (fun r => r.status = .awaiting) 0 asking ∧ ∀ k y, listed.intake.requests[k]? = some y → k = 0) ∧
    (∀ u, (at' u).intake.cursor .pq = some { entry := 1, reel := 0, unit := u } ∧ (at' u).intake.queue .pq = [] ∧
      (at' u).intake.requests.length ≤ 8 ∧ firstAt (at' u).intake.slots (fun y => y = none) 0 none) ∧
    ((at' 0).addsRequests 1 0 { reelOf 86400 3 with mainSubtitle := some 9 }).length = 1 ∧
    (86398 + 1 < (reelOf 86400 3).duration ∧ 86399 + 1 = (reelOf 86400 3).duration ∧ 0 + 1 < feature.reels.length ∧ 86399 ≠ 0) := by
  refine ⟨rfl, ?_, ?_, ⟨rfl, rfl, ⟨rfl, rfl, ?_⟩, rfl, ⟨rfl, ⟨rfl, rfl⟩, nofun⟩, rfl, rfl, ?_⟩,
    ⟨.inl ⟨_, List.mem_cons_self, rfl, rfl⟩, ?_⟩, ⟨⟨rfl, rfl, nofun⟩, ?_⟩,
    fun _ => ⟨rfl, rfl, by show 0 ≤ 8; decide, rfl, rfl, nofun⟩, by decide, by decide, by decide, by decide, by decide⟩
  · intro x hx
    obtain rfl := List.eq_of_mem_replicate hx
    nofun
  · intro st h
    cases st <;> simp [State.hasWork, fetching, Intake.queue, Intake.cursor, Intake.reset] at h
  · intro j hj x hx
    obtain rfl : j = 0 := by omega
    obtain rfl : some pictureRequest = x := Option.some.inj hx
    nofun
  · intro k f hk _
    have : k < 1 := by simpa [fetching, Intake.queue] using (List.getElem?_eq_some_iff.mp hk).1
    omega
  · intro h
    simp [State.hasWork, fetching, Intake.queue, Intake.cursor, Intake.reset] at h
  · intro k y hk
    have : k < 1 := by simpa using (List.getElem?_eq_some_iff.mp hk).1
    omega

/-- SamplePeriodPlaysTheMix: the last phase but one of a slot, an output without a ramp, a main unit; a stop fade before its last step; and a
window with one sample left. -/
theorem witness_sample_period :
    let s := { playingAt 99 1998 with snd := { Sound.reset with mainChannels := 6, main := { SoundTrack.reset with unit := some [] } } }
    (s.pwr.state = .active ∧ s.composed = true ∧ s.ctl.state ≠ .stopping ∧ s.meter.state ≠ .measuring ∧
      (∀ y ∈ s.snd.outputs, y.switch.ramp = none) ∧ s.tl.phase + 1 < s.tl.samplesPerFrame ∧ s.snd.outputs[17]? = some Output.reset) ∧
    ((stoppingAt 1919).tl.mode ≠ .advancing ∧ (stoppingAt 1919).composed = true ∧
      ∃ r, (stoppingAt 1919).snd.pause.ramp = some r ∧ ¬(1 ≤ r.step ∧ r.length ≤ r.step)) ∧
    (let x : Meter := { Meter.reset with state := .measuring, left := 1 }
     ({ s with meter := x }).composed = true ∧ x.left ≠ 0) :=
  ⟨by decide, ⟨by decide, rfl, _, rfl, by decide⟩, rfl, by decide⟩

/-! #### The ends of slots -/

theorem playing_ends (f : Nat) : (playingAt f 1999).endsSlot feature := ⟨rfl, rfl, rfl, rfl, rfl, rfl, feature_loads.1, rfl⟩

/-- The last sample of the trailer, before the feature. -/
def trailerEnd : State :=
  { playingAt 719 3999 with
    tl := { mode := .advancing, rate := .hz96000, entry := 0, reel := 0, frame := 719, phase := 3999, samplesPerFrame := 4000,
            total := 720, countPoint := none }
    acct := { Accounting.reset with log := [{ openRecord with entries := openRecord.entries.take 1 }], counter := 49 } }

theorem trailer_ends : trailerEnd.endsSlot trailer := ⟨rfl, rfl, rfl, rfl, rfl, rfl, ⟨by decide, by decide, by decide⟩, rfl⟩

/-- SlotEndsChargeAndGoOn: the last sample of frame 129,599, at the count point, of frame 86,399, before reel 1, and of the last frame of the
last entry; the same at the count point with the entry charged before; and the last sample of the trailer, before the feature. -/
theorem witness_slot_ends :
    let charged : ShowingRecord := { openRecord with entries := openRecord.entries.map fun x => { x with charged := true } }
    let again : State := { playingAt 129599 1999 with acct := { Accounting.reset with log := [charged], counter := 49 } }
    (∀ f, let s := playingAt f 1999
      s.endsSlot feature ∧ s.acct.log = [] ++ [openRecord] ∧ openRecord.outcome = none ∧
      (∃ x, openRecord.entries[s.tl.entry]? = some x ∧ x.charged = false) ∧ feature.keys.Nodup ∧
      ((s.keys.places.filterMap id).map KeyRecord.id).Nodup) ∧
    ((playingAt 129599 1999).tl.countPoint = some (129599 + 1) ∧ ((feature.reels.take 1).map Reel.duration).sum = 86399 + 1 ∧
      feature.withinReel 100 ∧ 172799 + 1 = (playingAt 172799 1999).tl.total ∧ (playingAt 172799 1999).entryAt 2 = none) ∧
    (again.endsSlot feature ∧ again.acct.log = [] ++ [charged] ∧ charged.outcome = none ∧
      ∃ x, charged.entries[again.tl.entry]? = some x ∧ x.charged = true) ∧
    (trailerEnd.endsSlot trailer ∧ 719 + 1 = trailerEnd.tl.total ∧ trailerEnd.entryAt (0 + 1) = some feature) := by
  refine ⟨?_, ⟨rfl, rfl, ?_, rfl, rfl⟩, ⟨⟨rfl, rfl, rfl, rfl, rfl, rfl, feature_loads.1, rfl⟩, rfl, rfl, _, rfl, rfl⟩,
    trailer_ends, rfl, rfl⟩
  · intro f
    refine ⟨playing_ends f, rfl, rfl, ⟨_, rfl, rfl⟩, by decide, ?_⟩
    simp [playingAt, armedHouse, tableOf]
  · unfold Entry.withinReel
    decide

/-- SlotStartServesTheFrame: a slot within the feature with a late picture, one with output 17 WAITING, and the start of the feature. -/
theorem witness_slot_start :
    let y : Output := { Output.reset with phase := .waiting, pendingDelay := some 24000 }
    let s : State := { playingAt 99 1999 with snd := { Sound.reset with mainChannels := 6, outputs := Sound.reset.outputs.set 17 y } }
    (s.endsSlot feature ∧ s.acct.log = [] ++ [openRecord] ∧ openRecord.outcome = none ∧ (openRecord.entries[s.tl.entry]?).isSome ∧
      99 + 1 < s.tl.total ∧ s.snd.assistChannels = feature.assistChannels ∧ s.intake.pq = [] ∧ s.snd.outputs[17]? = some y) ∧
    (trailerEnd.endsSlot trailer ∧ ∃ rec, trailerEnd.acct.log = [] ++ [rec] ∧ rec.outcome = none ∧ rec.entries.length = 0 + 1 ∧
      trailerEnd.entryAt (0 + 1) = some feature ∧ feature.sound ∧ 719 + 1 = trailerEnd.tl.total) :=
  ⟨⟨⟨rfl, rfl, rfl, rfl, rfl, rfl, feature_loads.1, rfl⟩, rfl, rfl, rfl, by decide, rfl, rfl, rfl⟩, trailer_ends, _, rfl, rfl, rfl, rfl,
    feature_loads.1, rfl⟩

/-- SubtitlesAreSentAtTheirSlot: a slot within a reel, the last of reel 0, and the last of the trailer, with no cue and no request. -/
theorem witness_subtitle_slots :
    (∀ f, (playingAt f 1999).endsSlot feature ∧ (∀ r ∈ (playingAt f 1999).intake.requests, r.status = .awaiting) ∧
      (playingAt f 1999).cue.live = []) ∧
    (∀ x, openRecord.entries[1]? = some x → x.subtitleDefects ≤ 65535) ∧ feature.withinReel (99 + 1) ∧
    (1 < feature.reels.length ∧ ((feature.reels.take 1).map Reel.duration).sum = 86399 + 1) ∧
    (trailerEnd.endsSlot trailer ∧ trailerEnd.cue.waiting = [] ∧ trailerEnd.entryAt 1 = some feature ∧ feature.sound) := by
  refine ⟨fun f => ⟨playing_ends f, nofun, rfl⟩, ?_, ?_, by decide, trailer_ends, rfl, rfl, feature_loads.1⟩
  · intro x hx
    obtain rfl := Option.some.inj hx
    decide
  · unfold Entry.withinReel
    decide

/-- A cue of the feature that reports, at an offset from its start. -/
def noticeCue (offset : Nat) : CueRecord :=
  { number := 1, entry := 1, anchor := .start, offset := offset, action := .notice, enabled := true, writtenMode := none }

/-- CuesFireAtTheirFrame: a live cue at frame 100 and at the entry end, one that is not due, and a pending one at frame 0 of the feature. -/
theorem witness_cues :
    let s (f : Nat) : State := { playingAt f 1999 with cue := { CueUnit.reset with live := [noticeCue (f + 1)] } }
    (∀ f, (s f).endsSlot feature ∧ (s f).linesKept ∧ (s f).cue.live = [] ++ noticeCue (f + 1) :: []) ∧
    ((noticeCue 100).dueAt 1 172800 100 ∧ (noticeCue 172800).dueAt 1 172800 172800 ∧ ¬(noticeCue 101).dueAt 1 172800 100) ∧
    (let u : State := { trailerEnd with cue := { CueUnit.reset with waiting := [noticeCue 0] } }
     u.endsSlot trailer ∧ u.linesKept ∧ (noticeCue 0).dueAt 1 feature.total 0 ∧ ∀ tr on, (noticeCue 0).action ≠ .subtitle tr on) := by
  have pairs (x : CueUnit) (hl : x.lines = CueUnit.reset.lines) (hp : x.pairs = CueUnit.reset.pairs) : ∀ k, k < 4 → x.pairKept k := by
    intro k hk
    interval_cases k <;> simp [CueUnit.pairKept, CueUnit.pairOf, CueUnit.modeOf, hl, hp, CueUnit.reset, CueLine.reset, Pair.reset, List.replicate]
  have levels : CueUnit.reset.hold = false → ∀ l ∈ CueUnit.reset.lines, l.pin = l.level := by decide
  have kept (n : Nat) : ∀ c ∈ [noticeCue n], c.kept := by
    intro c hc
    obtain rfl : c = noticeCue n := by simpa using hc
    trivial
  refine ⟨fun f => ⟨⟨rfl, rfl, rfl, rfl, rfl, rfl, feature_loads.1, rfl⟩, ⟨rfl, rfl, levels, pairs _ rfl rfl, kept _, nofun, nofun⟩, rfl⟩,
    ⟨⟨rfl, rfl, rfl⟩, ⟨rfl, rfl, rfl⟩, fun h => nomatch h.2.2⟩,
    ⟨rfl, rfl, rfl, rfl, rfl, rfl, ⟨by decide, by decide, by decide⟩, rfl⟩, ⟨rfl, rfl, by decide, pairs _ rfl rfl, nofun, kept _, nofun⟩,
    ⟨rfl, rfl, rfl⟩, nofun⟩

end Sys2Proof.Tests
end

section
/-!
SUPPORT. What a search for a key id answers in the Key Table, and the two requests that rest on it: KEY REMOVE (R50), KEY GET (R52).
-/
namespace Sys2Proof.Machine

/-- A place that holds the record of a key id. -/
def holdsKey (id : Id) (x : Option KeyRecord) : Prop := ∃ r, x = some r ∧ r.id = id

/-- The test by which the table looks for the index of a key id. -/
theorem holdsKey_iff (id : Id) (x : Option KeyRecord) : holdsKey id x ↔ (x.map KeyRecord.id = some id) := by
  simp [holdsKey]

/-! ### Searches of the table -/

theorem KeyTable.indexOf_of_firstAt {t : KeyTable} {id : Id} {i : Nat} {x : Option KeyRecord}
    (h : firstAt t.places (holdsKey id) i x) : t.indexOf id = some i :=
  indexWhere_eq_some _ t.places i x (by simpa [firstAt, holdsKey_iff] using h)

/-- The record found under a key id is that of the first place that holds it. -/
theorem findSome_of_firstAt {id : Id} {k : KeyRecord} : ∀ (l : List (Option KeyRecord)) (i : Nat),
    firstAt l (holdsKey id) i (some k) → (l.findSome? fun p => p.filter fun r => r.id = id) = some k
  | [], _, h => by simp [firstAt] at h
  | x :: l, 0, ⟨hx, hk, _⟩ => by
    obtain rfl : x = some k := by simpa using hx
    have hid : k.id = id := by simpa [holdsKey] using hk
    simp [hid]
  | x :: l, i + 1, ⟨hx, hk, hbefore⟩ => by
    have hhead : x.filter (fun r => decide (r.id = id)) = none := by
      have hne : ¬holdsKey id x := hbefore 0 (by omega) x (by simp)
      simpa [holdsKey] using hne
    have ih := findSome_of_firstAt l i
      ⟨by simpa using hx, hk, fun j hj y hy => hbefore (j + 1) (by omega) y (by simpa using hy)⟩
    rw [List.findSome?_cons, hhead]
    exact ih

theorem KeyTable.find_of_firstAt {t : KeyTable} {id : Id} {i : Nat} {k : KeyRecord}
    (h : firstAt t.places (holdsKey id) i (some k)) : t.find id = some k := findSome_of_firstAt t.places i h

theorem KeyTable.indexOf_of_unknown {t : KeyTable} {id : Id} (h : ∀ k, some k ∈ t.places → k.id ≠ id) : t.indexOf id = none := by
  refine indexWhere_eq_none _ t.places fun x hx => ?_
  cases x with
  | none => simp
  | some k => simpa using h k hx

/-! ### The owners' answers -/

/-- The payload that is an id spells that id. -/
theorem idField_of_idBytes (id : Id) : idField (idBytes id) 0 = id := by
  simpa using idField_idBytes [] [] id

/-- A payload that is an id has the length of its layout, so its owner answers (R188). -/
theorem sized_of_idBytes {owner : List Byte → State → Answer} {id : Id} {s : State} {a : Answer} (h : owner (idBytes id) s = a) :
    sized 16 owner (idBytes id) s = a := (if_pos (length_beBytes 16 _)).trans h

section
variable {s : State} {id : Id} {i : Nat} {k : KeyRecord}

theorem ownerKeyRemove_of_unknown (h : ∀ k, some k ∈ s.keys.places → k.id ≠ id) :
    ownerKeyRemove (idBytes id) s = s.refuse .notFound := by
  simp only [ownerKeyRemove, idField_of_idBytes, KeyTable.indexOf_of_unknown h]

theorem ownerKeyRemove_of_pinned (h : firstAt s.keys.places (holdsKey id) i (some k)) (hp : k.pinned = true) :
    ownerKeyRemove (idBytes id) s = s.refuse .inUse (beBytes 1 i) := by
  simp only [ownerKeyRemove, idField_of_idBytes, KeyTable.indexOf_of_firstAt h, KeyTable.find_of_firstAt h, hp, if_true]

/-- The table with a place freed, its index out of the changed set (R50). -/
def KeyTable.freed (t : KeyTable) (i : Nat) : KeyTable :=
  { places := updateAt (fun _ => none) i t.places, details := { t.details with changed := t.details.changed &&& ~~~(1#32 <<< i) } }

theorem ownerKeyRemove_of_unpinned (h : firstAt s.keys.places (holdsKey id) i (some k)) (hp : k.pinned = false) :
    ownerKeyRemove (idBytes id) s = (s.setKeys (s.keys.freed i)).ok (beBytes 1 i) := by
  simp only [ownerKeyRemove, idField_of_idBytes, KeyTable.indexOf_of_firstAt h, KeyTable.find_of_firstAt h, hp, Bool.false_eq_true,
    if_false, KeyTable.freed]

theorem ownerKeyGet_of_unknown (h : ∀ k, some k ∈ s.keys.places → k.id ≠ id) : ownerKeyGet (idBytes id) s = s.refuse .notFound := by
  simp only [ownerKeyGet, idField_of_idBytes, KeyTable.indexOf_of_unknown h]

theorem ownerKeyGet_of_firstAt (h : firstAt s.keys.places (holdsKey id) i (some k)) :
    ownerKeyGet (idBytes id) s = s.ok (k.bytes i) := by
  simp only [ownerKeyGet, idField_of_idBytes, KeyTable.indexOf_of_firstAt h, KeyTable.find_of_firstAt h]

end

/-! ### A freed place -/

/-- Taking an index out of a changed set clears its bit and no other. -/
theorem getLsbD_and_not_shiftLeft_one (b : BitVec 32) (i j : Nat) :
    (b &&& ~~~(1#32 <<< i)).getLsbD j = (b.getLsbD j && decide (j ≠ i)) := by
  by_cases hj : j < 32
  · have hbit : (1#32 <<< i).getLsbD j = decide (j = i) := by
      simp only [BitVec.getLsbD_shiftLeft, BitVec.getLsbD_one, hj]
      grind
    rw [BitVec.getLsbD_and, BitVec.getLsbD_not, hbit]
    simp [hj]
  · simp [BitVec.getLsbD_of_ge b j (by omega)]

/-- The place is free, the other places and the rest of the details stand, and the index alone has left the changed set. -/
theorem KeyTable.freed_spec (t : KeyTable) {i : Nat} {x : Option KeyRecord} (hi : t.places[i]? = some x) :
    (t.freed i).places.length = t.places.length ∧ (t.freed i).places[i]? = some none ∧
    (∀ j, j ≠ i → (t.freed i).places[j]? = t.places[j]?) ∧
    (t.freed i).details = { t.details with changed := (t.freed i).details.changed } ∧
    ∀ j, (t.freed i).details.changed.getLsbD j = (t.details.changed.getLsbD j && decide (j ≠ i)) := by
  refine ⟨length_updateAt _ _ _, ?_, fun j hj => ?_, rfl, getLsbD_and_not_shiftLeft_one _ i⟩
  · simp [KeyTable.freed, getElem?_updateAt, hi]
  · simp [KeyTable.freed, getElem?_updateAt, hj.symm]

/-! ### The two statements -/

theorem exec_keyRemove (tag : Byte) (p : List Byte) (s : State) :
    exec (.keyRemove tag p) s = request 33 (sized 16 ownerKeyRemove) tag p s := rfl

theorem exec_keyGet (tag : Byte) (p : List Byte) (s : State) :
    exec (.keyGet tag p) s = request 35 (sized 16 ownerKeyGet) tag p s := rfl

/-- Settles O36: the owner's three answers (no such key, a pinned one, an unpinned one), each carried to the reply. -/
theorem keyRemoveFreesThePlace : Obligations.KeyRemoveFreesThePlace := by
  intro tag id s hasks
  have hexec := exec_keyRemove tag (idBytes id) s
  refine ⟨fun hunknown => ?_, fun i k hfirst => ⟨fun hpinned => ?_, fun hpinned => ?_⟩⟩
  · exact refuses_of_owner hexec hasks (sized_of_idBytes (ownerKeyRemove_of_unknown hunknown))
  · exact refuses_of_owner hexec hasks (sized_of_idBytes (ownerKeyRemove_of_pinned hfirst hpinned))
  · refine answers_of_owner hexec hasks (sized_of_idBytes (ownerKeyRemove_of_unpinned hfirst hpinned)) rfl
      ((State.setKeys_frame _ _).mono (by simp)) (.inl hasks.2) fun u hu _ _ => ?_
    have hkeys : u.keys = s.keys.freed i := hu .keys (by simp)
    rw [hkeys]
    exact s.keys.freed_spec hfirst.1

/-- Settles O38: the owner finds the record of the first place that holds the id, and the bytes it lays out are those of R52, whether
the record has an allowance or not. -/
theorem keyGetReportsTheRecord : Obligations.KeyGetReportsTheRecord := by
  intro tag id s hasks
  have hexec := exec_keyGet tag (idBytes id) s
  refine ⟨fun hunknown => ?_, fun i k hfirst => ?_⟩
  · exact refuses_of_owner hexec hasks (sized_of_idBytes (ownerKeyGet_of_unknown hunknown))
  · have hreply : replies (.keyGet tag (idBytes id)) s (requestFrame 35 tag (idBytes id)) .ok (k.bytes i) [] fun _ => True :=
      answers_of_owner hexec hasks (sized_of_idBytes (ownerKeyGet_of_firstAt hfirst)) rfl (.refl _ _) (.inl hasks.2)
        fun _ _ _ _ => trivial
    unfold KeyRecord.bytes KeyRecord.scopeByte KeyRecord.remaining at hreply
    cases hallowance : k.allowance <;> rw [hallowance] at hreply <;> exact hreply

end Sys2Proof.Machine
end

section
/-!
SUPPORT. A request whose payload is to be empty, and STATUS (R186): its reply lays out the state field by field, the wake time and the
wake with zeros for what is absent.
-/
namespace Sys2Proof.Machine

/-! ### Requests of an empty payload -/

theorem bare_nil (owner : State → Answer) (s : State) : bare owner [] s = owner s := if_pos rfl

theorem bare_of_ne_nil (owner : State → Answer) {p : List Byte} (hp : p ≠ []) (s : State) : bare owner p s = s.refuse .badLength :=
  if_neg fun hlength => hp (List.eq_nil_of_length_eq_zero hlength)

/-! ### The fields of the reply -/

/-- The wake as STATUS lays it out: its cause and the booth clock it came at, zeros when there was none (R186). -/
theorem wakeBytes_eq_match (wake : Option (WakeCause × Nat)) :
    ((wake.map Prod.fst).map WakeCause.code).getD 0 :: beBytes 4 ((wake.map Prod.snd).getD 0) =
      (match wake with | some w => w.1.code :: beBytes 4 w.2 | none => [0, 0, 0, 0, 0]) := by
  cases wake with
  | none => rfl
  | some w => rfl

/-- A presence byte and a field of 4 bytes, five zeros when it is absent (R188). -/
theorem optBytes_four_eq_match (x : Option Nat) :
    optBytes 4 x = (match x with | some n => 1 :: beBytes 4 n | none => [0, 0, 0, 0, 0]) := by
  cases x with
  | none => rfl
  | some n => rfl

/-- The part code 0416h, the revision, and the fields after them in the order of R186. -/
theorem State.statusBytes_eq (s : State) :
    s.statusBytes =
      [0x04, 0x16, 1, s.pwr.state.code, s.ctl.state.code, s.tl.mode.code] ++ beBytes 1 s.tl.entry ++ beBytes 1 s.tl.reel ++
        beBytes 4 s.tl.frame ++ beBytes 2 s.tl.samplesPerFrame ++ [s.tl.rate.code] ++ beBytes 4 s.pwr.clock ++
        [flagByte s.pwr.clockSet] ++
        (match s.pwr.wakeTime with | some n => 1 :: beBytes 4 n | none => [0, 0, 0, 0, 0]) ++ [flagByte s.pwr.woke] ++
        (match s.pwr.wake with | some w => w.1.code :: beBytes 4 w.2 | none => [0, 0, 0, 0, 0]) ++
        [s.link.rate.code] ++ beBytes 1 s.notice.order.length := by
  have hpart : beBytes 2 0x0416 = [0x04, 0x16] := rfl
  rw [← wakeBytes_eq_match, ← optBytes_four_eq_match]
  simp only [State.statusBytes, State.powerBytes, hpart, List.append_assoc, List.cons_append, List.nil_append]

/-- None of the fields is the receive queue, so the take of the frame leaves them as they are. -/
theorem State.statusBytes_dequeue (s : State) : s.dequeue.statusBytes = s.statusBytes := rfl

/-! ### The statement -/

theorem exec_status (tag : Byte) (p : List Byte) (s : State) :
    exec (.status tag p) s = request 1 (bare ownerStatus) tag p s := rfl

/-- Settles O15: with an empty payload the owner answers with the state's bytes and leaves the state alone, and any other payload it
refuses. -/
theorem statusReportsTheState : Obligations.StatusReportsTheState := by
  intro tag p s hasks
  have hexec := exec_status tag p s
  refine ⟨?_, fun hp => refuses_of_owner hexec hasks (bare_of_ne_nil ownerStatus hp _)⟩
  rintro rfl
  have howner : bare ownerStatus [] s.dequeue = s.dequeue.ok s.statusBytes := by
    rw [bare_nil, ownerStatus, State.statusBytes_dequeue]
  have hreply : replies (.status tag []) s (requestFrame 1 tag []) .ok s.statusBytes [] fun _ => True :=
    answers_of_owner hexec hasks howner rfl (.refl _ _) (.inl hasks.2) fun _ _ _ _ => trivial
  rw [State.statusBytes_eq] at hreply
  exact hreply

end Sys2Proof.Machine
end
